-- ==== Sys2Proof/Word.lean ====
section
/-! DEFINITION. The word types of the card: bytes on the two buses, odometer readings, and text. -/

namespace Sys2Proof

/-- One byte of the probe bus (R72). -/
abbrev Byte := BitVec 8

/-- An odometer reading: 0 to 16,777,215 millimetres, wrapping (R5). -/
abbrev Odometer := BitVec 24

/-- A run of characters on the supervisor link or a reader channel, first character first. -/
abbrev Text := List Char

end Sys2Proof
end

