-- ==== Sys2Proof/Syntax.lean ====
section
/-! DEFINITION. The commands of the card: the names they speak of, the contents of the settings store
(which one of them carries), and `Instr`, one constructor per row of spec/opcode_table.json. -/

namespace Sys2Proof

/-- The four rack classes (section 1.3 of 00_scope.md): P PLATE, C CUP, K CUTLERY, T TRAY. -/
inductive RackClass where
  | plate | cup | cutlery | tray
  deriving DecidableEq, Repr

/-- A rack of the fleet. The value k stands for rack number k + 1, so the numbers run from 001 to 240. -/
abbrev Rack := Fin 240

/-- A loading station. The value k stands for station S(k+1). -/
abbrev Station := Fin 4

/-- The twenty discrete inputs in the order of section 2.1 (R16). -/
inductive Input where
  | ap  -- approach eye
  | en  -- entry eye
  | ex  -- exit eye
  | rg  -- return gate eye
  | v1  -- diverter eye S1
  | v2  -- diverter eye S2
  | v3  -- diverter eye S3
  | v4  -- diverter eye S4
  | re  -- return end eye
  | hn  -- tray head eye N
  | hs  -- tray head eye S
  | d1  -- door D1 switch
  | d2  -- door D2 switch
  | d3  -- door D3 switch
  | es  -- ESTOP loop
  | sk  -- SERVICE key switch
  | tf  -- TABLE FULL switch
  | rf  -- RETURN END FULL switch
  | fn  -- HEAD FULL N switch
  | fs  -- HEAD FULL S switch
  deriving DecidableEq, Repr

/-- The place of each name in its table, counted from 0. -/
def Input.index : Input → Fin 20
  | .ap => 0
  | .en => 1
  | .ex => 2
  | .rg => 3
  | .v1 => 4
  | .v2 => 5
  | .v3 => 6
  | .v4 => 7
  | .re => 8
  | .hn => 9
  | .hs => 10
  | .d1 => 11
  | .d2 => 12
  | .d3 => 13
  | .es => 14
  | .sk => 15
  | .tf => 16
  | .rf => 17
  | .fn => 18
  | .fs => 19

/-- Every name, in the order of its table. -/
def Input.all : List Input :=
  [.ap, .en, .ex, .rg, .v1, .v2, .v3, .v4, .re, .hn,
   .hs, .d1, .d2, .d3, .es, .sk, .tf, .rf, .fn, .fs]

/-- The three tag readers (section 2.4): ENTRY, EXIT and RETURN. -/
inductive Reader where
  | entry | exit | ret
  deriving DecidableEq, Repr

/-- The two tray belts (chapter 10): N and S. -/
inductive TrayBelt where
  | north | south
  deriving DecidableEq, Repr

/-- The rate jumper's three settings (section 1.9, R172). -/
inductive LinkRate where
  | r9600 | r19200 | r38400
  deriving DecidableEq, Repr

/-- The numeric parameters, in the order of the table of R177 (POL and AUTOCLASS, the two that are not numbers,
are fields of `Settings`). -/
inductive Param where
  | epm | xexit | washs | washe | finals | finale | d1s | d1e
  | d2s | d2e | d3s | d3e | spacing | admitLapse | admitUnread | autoEnrol
  | extol | poll | ct1 | ct2 | ct3 | ct4 | ct5 | ct6
  | cc1 | cc2 | cc3 | cc4 | cc5 | cc6 | tref | tresume
  | vnom | vmin | wfloor | wresume | rqdp | rqdc | rqdk | rqdt
  | rqwp | rqwc | rqwk | rqwt | stallrej | stall | retleg | congd
  | holdt | holdlim | tready | runon
  deriving DecidableEq, Repr

/-- The place of each name in its table, counted from 0. -/
def Param.index : Param → Fin 52
  | .epm => 0
  | .xexit => 1
  | .washs => 2
  | .washe => 3
  | .finals => 4
  | .finale => 5
  | .d1s => 6
  | .d1e => 7
  | .d2s => 8
  | .d2e => 9
  | .d3s => 10
  | .d3e => 11
  | .spacing => 12
  | .admitLapse => 13
  | .admitUnread => 14
  | .autoEnrol => 15
  | .extol => 16
  | .poll => 17
  | .ct1 => 18
  | .ct2 => 19
  | .ct3 => 20
  | .ct4 => 21
  | .ct5 => 22
  | .ct6 => 23
  | .cc1 => 24
  | .cc2 => 25
  | .cc3 => 26
  | .cc4 => 27
  | .cc5 => 28
  | .cc6 => 29
  | .tref => 30
  | .tresume => 31
  | .vnom => 32
  | .vmin => 33
  | .wfloor => 34
  | .wresume => 35
  | .rqdp => 36
  | .rqdc => 37
  | .rqdk => 38
  | .rqdt => 39
  | .rqwp => 40
  | .rqwc => 41
  | .rqwk => 42
  | .rqwt => 43
  | .stallrej => 44
  | .stall => 45
  | .retleg => 46
  | .congd => 47
  | .holdt => 48
  | .holdlim => 49
  | .tready => 50
  | .runon => 51

/-- Every name, in the order of its table. -/
def Param.all : List Param :=
  [.epm, .xexit, .washs, .washe, .finals, .finale, .d1s, .d1e, .d2s, .d2e,
   .d3s, .d3e, .spacing, .admitLapse, .admitUnread, .autoEnrol, .extol, .poll, .ct1, .ct2,
   .ct3, .ct4, .ct5, .ct6, .cc1, .cc2, .cc3, .cc4, .cc5, .cc6,
   .tref, .tresume, .vnom, .vmin, .wfloor, .wresume, .rqdp, .rqdc, .rqdk, .rqdt,
   .rqwp, .rqwc, .rqwk, .rqwt, .stallrej, .stall, .retleg, .congd, .holdt, .holdlim,
   .tready, .runon]

/-- The twenty alert kinds, in the order of the table of section 11.6 (RINSE_PROBE before WASH_PROBE, R181). -/
inductive AlertKind where
  | entryMiss | entryForced | entryRefused | exitExtra | exitMissing | exitSwap | extraUnlogged | tunnelStall
  | rinseProbe | washProbe | encStall | beltReverse | estop | returnLost | returnStray | rewashSkipped
  | trayLeak | outboxHigh | settingsDefault | saveFailed
  deriving DecidableEq, Repr

/-- The place of each name in its table, counted from 0. -/
def AlertKind.index : AlertKind → Fin 20
  | .entryMiss => 0
  | .entryForced => 1
  | .entryRefused => 2
  | .exitExtra => 3
  | .exitMissing => 4
  | .exitSwap => 5
  | .extraUnlogged => 6
  | .tunnelStall => 7
  | .rinseProbe => 8
  | .washProbe => 9
  | .encStall => 10
  | .beltReverse => 11
  | .estop => 12
  | .returnLost => 13
  | .returnStray => 14
  | .rewashSkipped => 15
  | .trayLeak => 16
  | .outboxHigh => 17
  | .settingsDefault => 18
  | .saveFailed => 19

/-- Every name, in the order of its table. -/
def AlertKind.all : List AlertKind :=
  [.entryMiss, .entryForced, .entryRefused, .exitExtra, .exitMissing, .exitSwap, .extraUnlogged, .tunnelStall, .rinseProbe, .washProbe,
   .encStall, .beltReverse, .estop, .returnLost, .returnStray, .rewashSkipped, .trayLeak, .outboxHigh, .settingsDefault, .saveFailed]

/-- A set of rack classes, as a station accepts them (R133). -/
structure ClassSet where
  plate   : Bool
  cup     : Bool
  cutlery : Bool
  tray    : Bool
  deriving DecidableEq, Repr

/-- One entry of the station table (R133). -/
structure StationEntry where
  isOpen   : Bool
  accepted : ClassSet
  capacity : Nat
  deriving DecidableEq, Repr

/-- The parameters that PS writes (R176): the numeric ones by `Param.index`, POL (true for the letter H, in
the order of section 2.1) and AUTOCLASS. The zone table and the credit table are among them. -/
structure Settings where
  values    : Vector Nat 52
  pol       : Vector Bool 20
  autoClass : RackClass
  deriving DecidableEq, Repr

/-- What the store keeps of an enrolled row (R168). -/
structure StoredRow where
  cls       : RackClass
  retired   : Bool
  washCount : Nat
  deriving DecidableEq, Repr

/-- The image of the card's settings, less its check word (R168). `none` is a row stored as vacant. -/
structure StoreImage where
  settings : Settings
  mask     : Vector Bool 20
  stations : Vector StationEntry 4
  rows     : Vector (Option StoredRow) 240
  serial   : Nat
  deriving DecidableEq, Repr

/-- What the EEPROM holds: a whole image with its 16-bit check word, or, from the event that begins a save
until its completion, part of the new image and part of the old, its check word agreeing with neither and its serial
field standing at one value (R114, R170). -/
inductive StoreContents where
  | whole (image : StoreImage) (check : BitVec 16)
  | mixed (serial : Nat)
  deriving DecidableEq, Repr

/-- The commands and events that the card takes: one constructor per row of spec/opcode_table.json, in the
table's order. Each carries what the outside world brings with it. A request of the supervisor link carries
its fields as they were written on the line, so that the tests of R175 are the card's own. -/
inductive Instr where
  /-- POWER_UP: the jumper and the switch are read, and the twenty raw levels (true is high) stand as wired. -/
  | powerUp (rate : LinkRate) (address : Nat) (levels : Vector Bool 20)
  | forwardPulse
  | reversePulse
  | encStall
  /-- INPUT_LEVEL_CHANGE: the terminal of `input` goes high (true) or low. -/
  | inputLevelChange (input : Input) (high : Bool)
  | filterTimeReached (input : Input)
  /-- READER_ANSWER: the characters of the answer, the echoed attempt number first (R22). -/
  | readerAnswer (reader : Reader) (answer : Text)
  | attemptTimeout (reader : Reader)
  | pollPeriodStart
  /-- PROBE_ANSWER: the bytes of the answer, byte 1 first (R72). -/
  | probeAnswer (bytes : List Byte)
  | probeWaitExpiry
  | tunnelStall
  | rejectLampTimeout
  | diverterPulseEnd (station : Station)
  /-- DEADLINE_EXPIRY: `position` counts the en-route entries from the oldest, which is 0. -/
  | deadlineExpiry (position : Nat)
  | holdTimerExpiry (belt : TrayBelt)
  | congestionTimerStep
  | loadCompletion
  /-- SAVE_COMPLETION: what the card finds when it reads the whole store back (R170). -/
  | saveCompletion (readBack : StoreContents)
  /-- OVERLENGTH_LINE: the characters received, "@" first, with no CR among them. -/
  | overlengthLine (characters : Text)
  /-- LINE_DISCARDED: a complete line from its "@" up to and not including its CR. -/
  | lineDiscarded (line : Text)
  /-- UNKNOWN_COMMAND: the two characters of the command code, and the fields. -/
  | unknownCommand (code : Text) (fields : List Text)
  | st (fields : List Text)
  | al (fields : List Text)
  | ac (fields : List Text)
  | am (fields : List Text)
  | tk (fields : List Text)
  | tl (fields : List Text)
  | rr (fields : List Text)
  | rs (fields : List Text)
  | en (fields : List Text)
  | dr (fields : List Text)
  | rt (fields : List Text)
  | mk (fields : List Text)
  | ss (fields : List Text)
  | sq (fields : List Text)
  | ps (fields : List Text)
  | pg (fields : List Text)
  | go (fields : List Text)
  | sp (fields : List Text)
  | cr (fields : List Text)
  | hb (fields : List Text)
  | hr (fields : List Text)
  | ld (fields : List Text)
  | sv (fields : List Text)
  | xr (fields : List Text)
  | dg (fields : List Text)
  | replyEnd
  deriving DecidableEq, Repr

end Sys2Proof
end

