-- ==== Sys2Proof/Config.lean ====
section
/-! DEFINITION. What the manual fixes for every card, and the two things it leaves open: how the settings image
is laid out in bytes, and which of two serials a half-written store holds. -/

namespace Sys2Proof.Config

/-- The greatest number of tunnel records (R49). -/
def tunnelLimit : Nat := 16
/-- The outbox capacity, which is also the limit of the reservation (section 7, R110). -/
def outboxLimit : Nat := 96
/-- The outbox count that raises OUTBOX_HIGH (R113). -/
def outboxHigh : Nat := 80
/-- The greatest wash serial (R109). -/
def serialLimit : Nat := 999999
/-- The skip applied to the stored serial at power-up (R114). -/
def serialSkip : Nat := 1000
/-- The greatest number of en-route entries (R136). -/
def enRouteLimit : Nat := 24
/-- The count, in tenths, at which the encoder-stall timer expires (R9). -/
def encoderStallLimit : Nat := 30
/-- The reverse count, in millimetres, that raises BELT_REVERSE and at which the count stops (R6, R7). -/
def reverseLimit : Nat := 50
/-- The reject lamp's time in tenths (R66). -/
def lampTenths : Nat := 80
/-- A diverter's pulse in tenths (R141). -/
def pulseTenths : Nat := 6
/-- The distance of a rack's centre behind its leading edge (R10). -/
def centreOffset : Nat := 250
/-- The greatest dose of a record (R77). -/
def doseLimit : Nat := 60000
/-- The greatest value of the 16-bit saturating counts (R25, R73, R80, R117, R150, R172). -/
def wordLimit : Nat := 65535
/-- The greatest value of the saturating counts of one byte (R73, R166). -/
def byteLimit : Nat := 255
/-- The greatest count of tenths that the stall timer falls below 0 (R102). -/
def stallFloor : Int := -32768
/-- The characters of the longest request, the "@" counted and the CR not (R172). -/
def lineLimit : Nat := 96
/-- The most wash records one TK takes (R111), and the most tunnel records one TL shows (R180). -/
def replyRecords : Nat := 8
/-- The card revision letter in DG, "A for the card this manual describes" (R181). -/
def revision : Char := 'A'

/-- The command codes of the table of section 12.2. -/
def commandCodes : List Text :=
  ["ST", "AL", "AC", "AM", "TK", "TL", "RR", "RS", "EN", "DR", "RT", "MK", "SS", "SQ", "PS", "PG", "GO", "SP",
   "CR", "HB", "HR", "LD", "SV", "XR", "DG"].map String.toList

/-- The bytes of an image, its check word not among them. R168 says that the check word is their sum modulo
65536; it does not say how the settings are laid out in bytes. UNVERIFIED: a free value (safe), log entry 1. -/
opaque imageBytes : StoreImage → List Byte

/-- Whether the serial field of a half-written store is the new image's (R114, R170). The manual says that the
store then holds part of the new image and part of the old, and not which. A free value (safe), log entry 2; its
argument is the State's counter of free values. -/
opaque newSerialWritten : Nat → Bool

end Sys2Proof.Config
end

