-- ==== Sys2Proof/Machine/Params.lean ====
section
/-! DEFINITION. The parameter table of R177: names, ranges, factory values and the key; and the factory image
of the settings store (R168). -/

namespace Sys2Proof.Machine

/-- The name that PS and PG write for a numeric parameter (R177). -/
def paramName : Param → Text
  | .epm => "EPM".toList
  | .xexit => "XEXIT".toList
  | .washs => "WASHS".toList
  | .washe => "WASHE".toList
  | .finals => "FINALS".toList
  | .finale => "FINALE".toList
  | .d1s => "D1S".toList
  | .d1e => "D1E".toList
  | .d2s => "D2S".toList
  | .d2e => "D2E".toList
  | .d3s => "D3S".toList
  | .d3e => "D3E".toList
  | .spacing => "SPACING".toList
  | .admitLapse => "ADMITLAPSE".toList
  | .admitUnread => "ADMITUNREAD".toList
  | .autoEnrol => "AUTOENROL".toList
  | .extol => "EXTOL".toList
  | .poll => "POLL".toList
  | .ct1 => "CT1".toList
  | .ct2 => "CT2".toList
  | .ct3 => "CT3".toList
  | .ct4 => "CT4".toList
  | .ct5 => "CT5".toList
  | .ct6 => "CT6".toList
  | .cc1 => "CC1".toList
  | .cc2 => "CC2".toList
  | .cc3 => "CC3".toList
  | .cc4 => "CC4".toList
  | .cc5 => "CC5".toList
  | .cc6 => "CC6".toList
  | .tref => "TREF".toList
  | .tresume => "TRESUME".toList
  | .vnom => "VNOM".toList
  | .vmin => "VMIN".toList
  | .wfloor => "WFLOOR".toList
  | .wresume => "WRESUME".toList
  | .rqdp => "RQDP".toList
  | .rqdc => "RQDC".toList
  | .rqdk => "RQDK".toList
  | .rqdt => "RQDT".toList
  | .rqwp => "RQWP".toList
  | .rqwc => "RQWC".toList
  | .rqwk => "RQWK".toList
  | .rqwt => "RQWT".toList
  | .stallrej => "STALLREJ".toList
  | .stall => "STALL".toList
  | .retleg => "RETLEG".toList
  | .congd => "CONGD".toList
  | .holdt => "HOLDT".toList
  | .holdlim => "HOLDLIM".toList
  | .tready => "TREADY".toList
  | .runon => "RUNON".toList

/-- The factory value of a numeric parameter (R177). -/
def paramDefault : Param → Nat
  | .epm => 400
  | .xexit => 6400
  | .washs => 400
  | .washe => 2800
  | .finals => 4600
  | .finale => 5200
  | .d1s => 0
  | .d1e => 2000
  | .d2s => 2000
  | .d2e => 4400
  | .d3s => 4400
  | .d3e => 6400
  | .spacing => 560
  | .admitLapse => 800
  | .admitUnread => 0
  | .autoEnrol => 0
  | .extol => 120
  | .poll => 200
  | .ct1 => 700
  | .ct2 => 760
  | .ct3 => 800
  | .ct4 => 820
  | .ct5 => 850
  | .ct6 => 900
  | .cc1 => 0
  | .cc2 => 8
  | .cc3 => 20
  | .cc4 => 40
  | .cc5 => 80
  | .cc6 => 160
  | .tref => 820
  | .tresume => 780
  | .vnom => 1800
  | .vmin => 600
  | .wfloor => 600
  | .wresume => 620
  | .rqdp => 6000
  | .rqdc => 6000
  | .rqdk => 7200
  | .rqdt => 4800
  | .rqwp => 450
  | .rqwc => 450
  | .rqwk => 600
  | .rqwt => 300
  | .stallrej => 1
  | .stall => 120
  | .retleg => 40
  | .congd => 15
  | .holdt => 20
  | .holdlim => 6
  | .tready => 820
  | .runon => 2000

/-- The fixed range of a numeric parameter (R177). The ten positions of the zone table have no range of their
own (R13 judges them as a table), and VMIN and WRESUME are also bounded by VNOM and WFLOOR (R82, R84). -/
def paramRange : Param → Nat × Nat
  | .epm => (50, 2000)
  | .xexit => (1000, 12000)
  | .washs => (0, 12000)
  | .washe => (0, 12000)
  | .finals => (0, 12000)
  | .finale => (0, 12000)
  | .d1s => (0, 12000)
  | .d1e => (0, 12000)
  | .d2s => (0, 12000)
  | .d2e => (0, 12000)
  | .d3s => (0, 12000)
  | .d3e => (0, 12000)
  | .spacing => (520, 2000)
  | .admitLapse => (300, 3000)
  | .admitUnread => (0, 1)
  | .autoEnrol => (0, 1)
  | .extol => (20, 300)
  | .poll => (100, 1000)
  | .ct1 => (0, 1200)
  | .ct2 => (0, 1200)
  | .ct3 => (0, 1200)
  | .ct4 => (0, 1200)
  | .ct5 => (0, 1200)
  | .ct6 => (0, 1200)
  | .cc1 => (0, 255)
  | .cc2 => (0, 255)
  | .cc3 => (0, 255)
  | .cc4 => (0, 255)
  | .cc5 => (0, 255)
  | .cc6 => (0, 255)
  | .tref => (0, 1200)
  | .tresume => (0, 1200)
  | .vnom => (600, 3000)
  | .vmin => (300, 3000)
  | .wfloor => (400, 900)
  | .wresume => (400, 950)
  | .rqdp => (0, 60000)
  | .rqdc => (0, 60000)
  | .rqdk => (0, 60000)
  | .rqdt => (0, 60000)
  | .rqwp => (0, 65535)
  | .rqwc => (0, 65535)
  | .rqwk => (0, 65535)
  | .rqwt => (0, 65535)
  | .stallrej => (0, 1)
  | .stall => (10, 600)
  | .retleg => (10, 300)
  | .congd => (5, 120)
  | .holdt => (5, 120)
  | .holdlim => (1, 20)
  | .tready => (0, 1200)
  | .runon => (0, 10000)

/-- Whether a numeric parameter is protected by the service key (R177). POL is, and AUTOCLASS is not. -/
def paramProtected : Param → Bool
  | .autoEnrol | .poll | .vnom | .vmin | .retleg | .congd | .holdt | .holdlim | .runon => false
  | .epm | .xexit | .washs | .washe | .finals | .finale | .d1s | .d1e | .d2s | .d2e
  | .d3s | .d3e | .spacing | .admitLapse | .admitUnread | .extol | .ct1 | .ct2 | .ct3 | .ct4
  | .ct5 | .ct6 | .cc1 | .cc2 | .cc3 | .cc4 | .cc5 | .cc6 | .tref | .tresume
  | .wfloor | .wresume | .rqdp | .rqdc | .rqdk | .rqdt | .rqwp | .rqwc | .rqwk | .rqwt
  | .stallrej | .stall | .tready => true

/-- The eleven parameters of the zone table (section 1.5, R13). -/
def paramIsZone : Param → Bool
  | .xexit | .washs | .washe | .finals | .finale | .d1s | .d1e | .d2s | .d2e | .d3s | .d3e => true
  | .epm | .spacing | .admitLapse | .admitUnread | .autoEnrol | .extol | .poll
  | .ct1 | .ct2 | .ct3 | .ct4 | .ct5 | .ct6 | .cc1 | .cc2 | .cc3 | .cc4 | .cc5 | .cc6
  | .tref | .tresume | .vnom | .vmin | .wfloor | .wresume
  | .rqdp | .rqdc | .rqdk | .rqdt | .rqwp | .rqwc | .rqwk | .rqwt
  | .stallrej | .stall | .retleg | .congd | .holdt | .holdlim | .tready | .runon => false

/-- The twelve parameters of the credit table (section 5.2, R76). -/
def paramIsCredit : Param → Bool
  | .ct1 | .ct2 | .ct3 | .ct4 | .ct5 | .ct6 | .cc1 | .cc2 | .cc3 | .cc4 | .cc5 | .cc6 => true
  | .xexit | .washs | .washe | .finals | .finale | .d1s | .d1e | .d2s | .d2e | .d3s | .d3e
  | .epm | .spacing | .admitLapse | .admitUnread | .autoEnrol | .extol | .poll
  | .tref | .tresume | .vnom | .vmin | .wfloor | .wresume
  | .rqdp | .rqdc | .rqdk | .rqdt | .rqwp | .rqwc | .rqwk | .rqwt
  | .stallrej | .stall | .retleg | .congd | .holdt | .holdlim | .tready | .runon => false

/-- The value in use of a numeric parameter. -/
def paramGet (c : Settings) (p : Param) : Nat := c.values[p.index]

/-- The settings with one numeric parameter changed. -/
def paramSet (c : Settings) (p : Param) (v : Nat) : Settings := { c with values := c.values.set p.index v }

/-- A vector of the given length, read off a list; places beyond the list's end take the filler. -/
def vectorOf {α : Type} (n : Nat) (xs : List α) (filler : α) : Vector α n :=
  ⟨((List.range n).map fun i => xs.getD i filler).toArray, by simp⟩

/-- Every place of a vector changed by the same function. -/
def vectorMap {α β : Type} {n : Nat} (f : α → β) (v : Vector α n) : Vector β n :=
  ⟨(v.toList.map f).toArray, by simp⟩

/-- The default polarity HHHHHHHHHHHLLLLHHHHH (R16); true is H. -/
def defaultPolarity : Vector Bool 20 :=
  #v[true, true, true, true, true, true, true, true, true, true,
     true, false, false, false, false, true, true, true, true, true]

/-- Every parameter at its default (R168, R177). -/
def factorySettings : Settings :=
  { values := vectorOf 52 (Param.all.map paramDefault) 0, pol := defaultPolarity, autoClass := .plate }

/-- The default station table: open, every class, capacity 3 (R133). -/
def factoryStation : StationEntry := { isOpen := true, accepted := ⟨true, true, true, true⟩, capacity := 3 }

/-- The image of a new card: factory values, an empty mask, every row vacant (R168, section 1.9), and the
factory serial 1 (R114). -/
def factoryImage : StoreImage :=
  { settings := factorySettings, mask := Vector.replicate 20 false, stations := Vector.replicate 4 factoryStation,
    rows := Vector.replicate 240 none, serial := 1 }

/-- The check word of an image: the sum of its bytes modulo 65536 (R168). -/
def checkWord (i : StoreImage) : BitVec 16 :=
  BitVec.ofNat 16 ((Config.imageBytes i).map BitVec.toNat).sum

end Sys2Proof.Machine
end

