-- ==== Sys2Proof/Machine/State.lean ====
section
/-! DEFINITION. The state of the card, block by block as section 1.4 of the Introduction names the blocks, the
state right after reset, and the reasons a step can stop. -/

namespace Sys2Proof.Machine

/-! ## Belt tracker (chapter 1) -/

/-- The encoder-stall timer (R8): a count of tenths while RUNNING. -/
inductive EncoderTimer where
  | idle | running (count : Nat) | expired
  deriving DecidableEq, Repr

/-- The belt tracker's own state (chapter 1). EPM and the zone table are among the settings in use. -/
structure Belt where
  forwardAcc   : Nat
  odometer     : Odometer
  reverseAcc   : Nat
  reverseCount : Nat
  timer        : EncoderTimer
  deriving DecidableEq, Repr

/-! ## Field input conditioner and reader interface (chapter 2) -/

/-- One discrete input (R17): the level on its terminal (true is high), its filtered state (true is active:
blocked, open or active), and whether its qualifying timer is running. -/
structure InputChannel where
  level      : Bool
  filtered   : Bool
  qualifying : Bool
  deriving DecidableEq, Repr

/-- One tag reader (section 2.4): the attempt in progress (1, 2 or 3), `none` while IDLE, and the failure count.
The attempt timer runs exactly while an attempt is in progress. -/
structure ReaderChannel where
  attempt  : Option Nat
  failures : Nat
  deriving DecidableEq, Repr

/-- The three readers (section 2.4). -/
structure Readers where
  entry : ReaderChannel
  exit  : ReaderChannel
  ret   : ReaderChannel
  deriving DecidableEq, Repr

/-- A read outcome that names a rack or none (R23, R25). ABANDONED comes only with a gate eye's clear (R26). -/
inductive ReadOutcome where
  | read (rack : Rack) | unread
  deriving DecidableEq, Repr

/-! ## Admission control (chapter 3) -/

/-- The WAITING reasons in the order they are tested (R33). -/
inductive WaitReason where
  | mode | retired | unenrolled | unread | full | outbox | spacing
  deriving DecidableEq, Repr

/-- The pending admission (section 3.1). -/
structure Pending where
  rack   : Option Rack
  cls    : Option RackClass
  rewash : Bool
  deriving DecidableEq, Repr

/-- The approach stage with what each stage carries (R29): the stop outcome in WAITING; the pending admission,
the lapse count and the held outcome in ADMITTING. -/
inductive Stage where
  | empty
  | reading
  | waiting (reason : WaitReason) (outcome : ReadOutcome)
  | admitting (pending : Pending) (lapse : Nat) (held : Option ReadOutcome)
  deriving DecidableEq, Repr

/-! ## Tunnel list (chapter 4) -/

/-- The flags of a record (R48): a set, one truth value for each name. -/
structure Flags where
  anon       : Bool := false
  forced     : Bool := false
  rewash     : Bool := false
  door       : Bool := false
  halted     : Bool := false
  stalled    : Bool := false
  probeGap   : Bool := false
  exitUnread : Bool := false
  swap       : Bool := false
  extra      : Bool := false
  missing    : Bool := false
  repaired   : Bool := false
  reset      : Bool := false
  deriving DecidableEq, Repr

/-- A tunnel record (R47). -/
structure TunnelRecord where
  rack     : Option Rack
  cls      : Option RackClass
  entry    : Odometer
  dose     : Nat
  washTime : Nat
  minRinse : Option Nat
  flags    : Flags
  deriving DecidableEq, Repr

/-- The exit check record (R55): a tunnel record with its exit odometer and, after a SWAP, its read number. Its
entry odometer is absent for an EXTRA record (R52). -/
structure ExitRecord where
  rack       : Option Rack
  cls        : Option RackClass
  entry      : Option Odometer
  exit       : Odometer
  dose       : Nat
  washTime   : Nat
  minRinse   : Option Nat
  flags      : Flags
  readNumber : Option Rack
  deriving DecidableEq, Repr

/-- The reject lamp (R66): OFF, or ON with the tenths left on its timer. -/
inductive Lamp where
  | off | on (left : Nat)
  deriving DecidableEq, Repr

/-- The tunnel list block (section 4.1), head first. EXTOL is among the settings in use. -/
structure Tunnel where
  list : List TunnelRecord
  slot : Option ExitRecord
  lamp : Lamp
  deriving DecidableEq, Repr

/-! ## Rinse monitor (chapter 5) -/

/-- Which head is being polled (R71). -/
inductive PollPhase where
  | quiet | rinse | wash
  deriving DecidableEq, Repr

/-- The poll cycle (R71): not begun before the first load has supplied POLL; afterwards the length in
milliseconds of the period in progress and the head being polled. -/
inductive PollCycle where
  | notStarted | started (period : Nat) (phase : PollPhase)
  deriving DecidableEq, Repr

/-- The latest sample of a head (R73). -/
inductive Sample where
  | none | invalid | temp (t : Nat)
  deriving DecidableEq, Repr

/-- The reason of a set RINSE or WASH cause (R83, R84, R88). -/
inductive HoldReason where
  | temperature | probe | start
  deriving DecidableEq, Repr

/-- What the rinse monitor keeps for one head (chapter 5): latest sample, consecutive invalid count, invalid
sample total, and its hold cause, clear or set with a reason. -/
structure ProbeHead where
  latest      : Sample
  consecutive : Nat
  total       : Nat
  cause       : Option HoldReason
  deriving DecidableEq, Repr

/-- The rinse monitor (chapter 5). The credit table and the class requirements are among the settings in use. -/
structure Rinse where
  cycle : PollCycle
  rinse : ProbeHead
  wash  : ProbeHead
  deriving DecidableEq, Repr

/-! ## Pacing controller (chapter 6) -/

/-- The stall timer (R101, R102): a signed count of tenths while COUNTING. `reached` is COUNTING at 0 where
TUNNEL_STALL has taken the last tenth and the 0.1 s step of that tenth is still to come (log entry 5). -/
inductive StallTimer where
  | idle | counting (count : Int) | reached
  deriving DecidableEq, Repr

/-- The pacing controller (chapter 6). RINSE and WASH, the other two members of the hold set, are the causes
that the rinse monitor keeps (R90). -/
structure Pacing where
  exitCause      : Bool
  doorCause      : Bool
  pauseCause     : Bool
  speedDemand    : Nat
  beltRun        : Bool
  setPoint       : Nat
  valveOpen      : Bool
  stallTimer     : StallTimer
  longestOverrun : Nat
  deriving DecidableEq, Repr

/-! ## Outbox (chapter 7) -/

/-- A verdict (R86). -/
inductive Verdict where
  | clean | short | unknown
  deriving DecidableEq, Repr

/-- A wash record (R107). -/
structure WashRecord where
  serial     : Nat
  rack       : Option Rack
  readNumber : Option Rack
  cls        : Option RackClass
  entry      : Option Odometer
  exit       : Option Odometer
  dose       : Nat
  washTime   : Nat
  minRinse   : Option Nat
  verdict    : Verdict
  flags      : Flags
  deriving DecidableEq, Repr

/-- The outbox (chapter 7), oldest record first. -/
structure Outbox where
  queue      : List WashRecord
  nextSerial : Nat
  deriving DecidableEq, Repr

/-! ## Rack registry (chapter 8) -/

/-- A rack's place (section 8.2); AT_STATION carries the row's station field. -/
inductive Place where
  | unseen | queued | admitting | inTunnel | atExit | atUnload | onReturn
  | atStation (station : Station)
  | atReturnEnd | lost
  deriving DecidableEq, Repr

/-- An enrolled row (R117). -/
structure Row where
  cls         : RackClass
  place       : Place
  retired     : Bool
  rewashDue   : Bool
  washCount   : Nat
  lastVerdict : Option Verdict
  lastSerial  : Option Nat
  deriving DecidableEq, Repr

/-- The registry (R117): one row for each rack, `none` while it is vacant. -/
abbrev Registry := Vector (Option Row) 240

/-! ## Return dispatcher (chapter 9) -/

/-- An en-route entry (R136). A target of `none` is the return end, the manual's target 0. -/
structure EnRoute where
  rack     : Option Rack
  target   : Option Station
  lastEye  : Nat
  deadline : Nat
  deriving DecidableEq, Repr

/-- A diverter output (R141): OFF, or PULSING with the tenths left. -/
inductive Diverter where
  | off | pulsing (left : Nat)
  deriving DecidableEq, Repr

/-- The round-robin pointers, one for each class (R138). -/
structure Pointers where
  plate   : Station
  cup     : Station
  cutlery : Station
  tray    : Station
  deriving DecidableEq, Repr

/-- The return dispatcher (chapter 9), the oldest en-route entry first. RETLEG is among the settings in use. -/
structure Return where
  stations   : Vector StationEntry 4
  enRoute    : List EnRoute
  pointers   : Pointers
  diverters  : Vector Diverter 4
  returnBelt : Bool
  deriving DecidableEq, Repr

/-! ## Tray intake control (chapter 10) -/

/-- A tray belt's state (R147); HELD carries the tenths left on the hold timer. -/
inductive BeltState where
  | running | held (left : Nat) | stoppedFull | stoppedLine
  deriving DecidableEq, Repr

/-- One tray belt (chapter 10). -/
structure TrayChannel where
  state     : BeltState
  holdCount : Nat
  leakCount : Nat
  deriving DecidableEq, Repr

/-- Tray intake control (chapter 10). -/
structure Tray where
  north           : TrayChannel
  south           : TrayChannel
  lineHeld        : Bool
  congestionTimer : Nat
  congested       : Bool
  deriving DecidableEq, Repr

/-! ## Line supervisor (chapter 11) -/

/-- The halt causes (R163). -/
inductive HaltCause where
  | estop | encStall | beltReverse
  deriving DecidableEq, Repr

/-- The line mode (section 11.1); HALT carries its cause, which is present only in HALT. -/
inductive LineMode where
  | loading | warming | parked | run | halt (cause : HaltCause)
  deriving DecidableEq, Repr

/-- A latched alert kind (R166). The untracked mark is ENTRY_FORCED's. -/
structure Latched where
  count         : Nat
  firstOdometer : Odometer
  lastRack      : Option Rack
  untracked     : Bool
  deriving DecidableEq, Repr

/-- The start that a load in progress belongs to (R168). -/
inductive LoadKind where
  | powerUp | lineReset
  deriving DecidableEq, Repr

/-- The store operation (section 11): a save carries the image being written (R170). -/
inductive StoreOp where
  | none | loading (kind : LoadKind) | saving (image : StoreImage)
  deriving DecidableEq, Repr

/-- The last save result (section 11). -/
inductive SaveResult where
  | none | passed | failed
  deriving DecidableEq, Repr

/-- The line supervisor (chapter 11). An alert kind is `none` while it is clear. -/
structure Supervisor where
  mode        : LineMode
  draining    : Bool
  runOn       : Nat
  lineHeld    : Bool
  alerts      : Vector (Option Latched) 20
  mask        : Vector Bool 20
  alertOutput : Bool
  storeOp     : StoreOp
  lastSave    : SaveResult
  deriving DecidableEq, Repr

/-! ## Supervisor link (chapter 12) -/

/-- The receive buffer (R172): idle, or collecting the characters of one request, its "@" the first. -/
inductive ReceiveBuffer where
  | idle | collecting (characters : Text)
  deriving DecidableEq, Repr

/-- The transmitter (R172): quiet, or sending one reply, its CR not shown. -/
inductive Transmitter where
  | quiet | sending (reply : Text)
  deriving DecidableEq, Repr

/-- The supervisor link (chapter 12), with the rate and the address read at power-up. -/
structure Link where
  rate         : LinkRate
  address      : Nat
  buffer       : ReceiveBuffer
  transmitter  : Transmitter
  badCheck     : Nat
  overlength   : Nat
  otherAddress : Nat
  deriving DecidableEq, Repr

/-! ## The whole card -/

/-- The card: its thirteen blocks (section 1.4), the settings in use, the settings store, the model's own
counter of free values, and the commands that are waiting, first in, first out. -/
structure State where
  belt      : Belt
  inputs    : Vector InputChannel 20
  readers   : Readers
  stage     : Stage
  tunnel    : Tunnel
  rinse     : Rinse
  pacing    : Pacing
  outbox    : Outbox
  registry  : Registry
  returns   : Return
  tray      : Tray
  sup       : Supervisor
  link      : Link
  settings  : Settings
  store     : StoreContents
  freeIndex : Nat
  pending   : List Instr
  deriving DecidableEq, Repr

/-- No command of this card stops the machine with a fault: the manual gives every event an effect, and an
event that cannot arise in the present state changes nothing (log entry 6). The type has no constructor. -/
inductive Fault where
  deriving DecidableEq, Repr

/-- Why a command has no meaning. -/
inductive Refusal where
  /-- Raised by an arm of `exec` for a command whose meaning is not written yet; safe. No arm raises it now. -/
  | notModelled (mnemonic : String)
  deriving DecidableEq, Repr

/-- A reader that is IDLE and has failed no attempt (R28). -/
def readerIdle : ReaderChannel := { attempt := none, failures := 0 }

/-- A probe head right after a start (R88): no sample, counts 0, cause set with the reason start. -/
def headAtStart : ProbeHead := { latest := .none, consecutive := 0, total := 0, cause := some .start }

/-- A tray belt right after power-up (R156). -/
def trayAtPowerUp : TrayChannel := { state := .stoppedLine, holdCount := 0, leakCount := 0 }

/-- An input right after power-up with its terminal at the given level, read through the factory polarity
(R18): filtered inactive, qualifying where the level already reads active. -/
def inputAtPowerUp (highIsActive level : Bool) : InputChannel :=
  { level := level, filtered := false, qualifying := level == highIsActive }

/-- The card right after supply is applied to a new card with its jumper and switch as delivered (section 1.9):
every block's power-up column (R15, R18, R28, R44, R67, R88, R106, R114, R130, R146, R156, R171, R173), and
the store holding the factory image. Every input's terminal stands at its inactive level (DESIGN CHOICE, log
entry 3). -/
def State.reset : State :=
  { belt := { forwardAcc := 0, odometer := 0, reverseAcc := 0, reverseCount := 0, timer := .idle }
    inputs := vectorMap (fun highIsActive => inputAtPowerUp highIsActive (!highIsActive)) defaultPolarity
    readers := { entry := readerIdle, exit := readerIdle, ret := readerIdle }
    stage := .empty
    tunnel := { list := [], slot := none, lamp := .off }
    rinse := { cycle := .notStarted, rinse := headAtStart, wash := headAtStart }
    pacing :=
      { exitCause := false, doorCause := false, pauseCause := false, speedDemand := 1800, beltRun := false,
        setPoint := 0, valveOpen := false, stallTimer := .idle, longestOverrun := 0 }
    outbox := { queue := [], nextSerial := 1001 }
    registry := Vector.replicate 240 none
    returns :=
      { stations := Vector.replicate 4 factoryStation, enRoute := [],
        pointers := { plate := 3, cup := 3, cutlery := 3, tray := 3 },
        diverters := Vector.replicate 4 .off, returnBelt := false }
    tray :=
      { north := trayAtPowerUp, south := trayAtPowerUp, lineHeld := true, congestionTimer := 0,
        congested := false }
    sup :=
      { mode := .loading, draining := false, runOn := 0, lineHeld := true,
        alerts := Vector.replicate 20 none, mask := Vector.replicate 20 false, alertOutput := false,
        storeOp := .loading .powerUp, lastSave := .none }
    link :=
      { rate := .r19200, address := 1, buffer := .idle, transmitter := .quiet, badCheck := 0, overlength := 0,
        otherAddress := 0 }
    settings := factorySettings
    store := .whole factoryImage (checkWord factoryImage)
    freeIndex := 0
    pending := [] }

end Sys2Proof.Machine
end

