-- ==== Sys2Proof/Machine/Ops.lean ====
section
/-! DEFINITION. The operations every block uses: parameters and inputs as they stand, travel and zone membership,
registry rows and places, the reservation, the hold set, and raising and clearing alerts. -/

namespace Sys2Proof.Machine

/-- A count that stops at its limit and does not wrap (section 1.6, "saturating"). -/
def saturatingAdd (limit n k : Nat) : Nat := min limit (n + k)

/-! ## Parameters and inputs -/

/-- The value in use of a numeric parameter. -/
def par (s : State) (p : Param) : Nat := paramGet s.settings p

/-- The conditioner's channel of an input. -/
def channel (s : State) (i : Input) : InputChannel := s.inputs[i.index]

/-- Whether the filtered state of an input is active: blocked, open or active (R16). -/
def isActive (s : State) (i : Input) : Bool := (channel s i).filtered

/-- The state with one input's channel replaced. -/
def setChannel (s : State) (i : Input) (c : InputChannel) : State :=
  { s with inputs := s.inputs.set i.index c }

/-- A terminal's level read through a polarity: active while high with H, while low with L (R16). -/
def readsActive (highIsActive level : Bool) : Bool := level == highIsActive

/-! ## The readers (R24) -/

/-- The gate eye of each reader (section 2.4). -/
def gateEye : Reader → Input
  | .entry => .ap
  | .exit => .ex
  | .ret => .rg

/-- One reader's channel. -/
def reader (s : State) : Reader → ReaderChannel
  | .entry => s.readers.entry
  | .exit => s.readers.exit
  | .ret => s.readers.ret

/-- The state with one reader's channel replaced. -/
def setReader (s : State) (r : Reader) (c : ReaderChannel) : State :=
  match r with
  | .entry => { s with readers := { s.readers with entry := c } }
  | .exit => { s with readers := { s.readers with exit := c } }
  | .ret => { s with readers := { s.readers with ret := c } }

/-- A read starts with attempt 1 at a reader that is IDLE; a reader that is READING goes on (R24). -/
def startRead (s : State) (r : Reader) : State :=
  match (reader s r).attempt with
  | none => setReader s r { reader s r with attempt := some 1 }
  | some _ => s

/-- An owner's request for a read: it starts one only while the gate eye is blocked, and is not remembered
(R24). -/
def requestRead (s : State) (r : Reader) : State :=
  if isActive s (gateEye r) then startRead s r else s

/-! ## Travel and zones (R10, R12) -/

/-- The travel p of a record with the given entry odometer: (odometer - entry) modulo 2^24 (R10). -/
def travel (s : State) (entry : Odometer) : Nat := (s.belt.odometer - entry).toNat

/-- Whether a rack of travel p has its centre within [start, finish); a rack whose p is below 250 is in no zone
and no span (R12). -/
def centreWithin (p start finish : Nat) : Bool :=
  decide (Config.centreOffset ≤ p) && decide (start ≤ p - Config.centreOffset)
    && decide (p - Config.centreOffset < finish)

/-- Whether a record's centre is in WASH (R12, R80). -/
def inWash (s : State) (r : TunnelRecord) : Bool :=
  centreWithin (travel s r.entry) (par s .washs) (par s .washe)

/-- Whether a record's centre is in FINAL (R12, R77). -/
def inFinal (s : State) (r : TunnelRecord) : Bool :=
  centreWithin (travel s r.entry) (par s .finals) (par s .finale)

/-- The three inspection doors. -/
inductive Door where
  | d1 | d2 | d3
  deriving DecidableEq, Repr

/-- Whether a record's centre is in the span of a door (R12, R99). -/
def inDoorSpan (s : State) (d : Door) (r : TunnelRecord) : Bool :=
  match d with
  | .d1 => centreWithin (travel s r.entry) (par s .d1s) (par s .d1e)
  | .d2 => centreWithin (travel s r.entry) (par s .d2s) (par s .d2e)
  | .d3 => centreWithin (travel s r.entry) (par s .d3s) (par s .d3e)

/-! ## The rack registry (R117, R118) -/

/-- A rack's row; `none` is vacant. -/
def row (s : State) (r : Rack) : Option Row := s.registry[r]

/-- The state with one row replaced. -/
def setRow (s : State) (r : Rack) (w : Option Row) : State := { s with registry := s.registry.set r w }

/-- The place of an enrolled row set; a vacant row has no place and stays vacant (R118). -/
def setPlace (s : State) (r : Rack) (p : Place) : State :=
  match row s r with
  | some w => setRow s r (some { w with place := p })
  | none => s

/-- The place of the rack a record names, if it names one (R118). -/
def setPlaceOf (s : State) (r : Option Rack) (p : Place) : State :=
  match r with
  | some r => setPlace s r p
  | none => s

/-- The place of an enrolled rack; `none` for a vacant row. -/
def placeOf (s : State) (r : Rack) : Option Place := (row s r).map Row.place

/-- The class of an enrolled rack; `none` for a vacant row (R57, R62). -/
def classOf (s : State) (r : Rack) : Option RackClass := (row s r).map Row.cls

/-- The row of a rack just enrolled (R34, R124). -/
def newRow (c : RackClass) (p : Place) : Row :=
  { cls := c, place := p, retired := false, rewashDue := false, washCount := 0, lastVerdict := none,
    lastSerial := none }

/-- The occupancy of a station: en-route entries with that target plus rows AT_STATION it (R134). -/
def occupancy (s : State) (n : Station) : Nat :=
  s.returns.enRoute.countP (fun e => e.target == some n)
    + s.registry.toList.countP (fun w => w.map Row.place == some (.atStation n))

/-- Every en-route entry carrying a rack is removed, with no alert (R32, R56, R137). -/
def removeEnRoute (s : State) (r : Rack) : State :=
  { s with returns := { s.returns with enRoute := s.returns.enRoute.filter fun e => e.rack != some r } }

/-- The rack a collection takes up given up by the en-route list, if it is named (R29, R119). -/
def removeEnRouteOf (s : State) (rack : Option Rack) : State :=
  match rack with
  | some r => removeEnRoute s r
  | none => s

/-- Whether an en-route entry carries a rack (R124, R130). -/
def carriedEnRoute (s : State) (r : Rack) : Bool := s.returns.enRoute.any fun e => e.rack == some r

/-! ## The reservation and the empty line (R110, R161) -/

/-- The pending admission, if there is one (R29). -/
def Stage.pending? : Stage → Option Pending
  | .admitting p _ _ => some p
  | .empty | .reading | .waiting _ _ => none

/-- How many records a present or absent one counts for (R110). -/
def countOf {α : Type} (x : Option α) : Nat := if x.isSome then 1 else 0

/-- Tunnel records plus pending admission plus exit check plus outbox records (R110). -/
def reservation (s : State) : Nat :=
  s.tunnel.list.length + countOf s.stage.pending? + countOf s.tunnel.slot + s.outbox.queue.length

/-- The line is empty while the tunnel list, the pending admission and the exit check are (R161). -/
def lineEmpty (s : State) : Bool := s.tunnel.list.isEmpty && s.stage.pending?.isNone && s.tunnel.slot.isNone

/-! ## Line mode and hold set (R90, R157) -/

/-- Whether the mode is HALT, whatever its cause. -/
def LineMode.isHalt : LineMode → Bool
  | .halt _ => true
  | .loading | .warming | .parked | .run => false

/-- Whether the hold set is empty (R90). -/
def holdSetEmpty (s : State) : Bool :=
  s.rinse.rinse.cause.isNone && s.rinse.wash.cause.isNone && !s.pacing.exitCause && !s.pacing.doorCause
    && !s.pacing.pauseCause

/-- The entry stop is open while the stage is ADMITTING and the mode is RUN (R29). -/
def entryStopOpen (s : State) : Bool := s.stage.pending?.isSome && s.sup.mode == .run

/-- The analogue speed signal in millivolts: the set point times 10 divided by 3, truncated (R96). -/
def speedSignal (s : State) : Nat := s.pacing.setPoint * 10 / 3

/-- The contactor of a tray belt is ON in RUNNING and OFF in the other states (R147). -/
def contactorOn (c : TrayChannel) : Bool := c.state == .running

/-! ## Alerts (R166, R167) -/

/-- Whether some latched kind is not masked: what the ALERT output shows (R167). -/
def alertActive (alerts : Vector (Option Latched) 20) (mask : Vector Bool 20) : Bool :=
  AlertKind.all.any fun k => alerts[k.index].isSome && !mask[k.index]

/-- The ALERT output recomputed (R167). -/
def refreshAlertOutput (s : State) : State :=
  { s with sup := { s.sup with alertOutput := alertActive s.sup.alerts s.sup.mask } }

/-- The entry of an alert kind; `none` while it is clear (R166). -/
def alert (s : State) (k : AlertKind) : Option Latched := s.sup.alerts[k.index]

/-- A kind's entry after a raise with a rack number or none, at an odometer value (R166). -/
def latchedBy (odometer : Odometer) (rack : Option Rack) (untracked : Bool) : Option Latched → Latched
  | none => { count := 1, firstOdometer := odometer, lastRack := rack, untracked := untracked }
  | some e =>
    { e with
      count := saturatingAdd Config.byteLimit e.count 1
      lastRack := rack
      untracked := e.untracked || untracked }

/-- A raise of an alert kind, which may carry ENTRY_FORCED's untracked mark (R166). -/
def raiseMarked (s : State) (k : AlertKind) (rack : Option Rack) (untracked : Bool) : State :=
  refreshAlertOutput
    { s with sup := { s.sup with
        alerts := s.sup.alerts.set k.index (some (latchedBy s.belt.odometer rack untracked (alert s k))) } }

/-- A raise of an alert kind with the rack number its rule gives, or with none (R166). -/
def raise (s : State) (k : AlertKind) (rack : Option Rack) : State := raiseMarked s k rack false

/-- The kinds of a list cleared (R167). -/
def clearAlerts (s : State) (kinds : List AlertKind) : State :=
  refreshAlertOutput
    { s with sup := { s.sup with
        alerts := kinds.foldl (fun v k => v.set k.index none) s.sup.alerts } }

end Sys2Proof.Machine
end

