-- ==== Sys2Proof/Machine/Flags.lean ====
section
/-! DEFINITION. The flags of records (R48), the class requirements (R85) and the verdict (R86). -/

namespace Sys2Proof.Machine

/-- Whether the flags by themselves make the verdict UNKNOWN (R48, R86 step 1). -/
def Flags.unvouched (f : Flags) : Bool := f.swap || f.extra || f.missing || f.repaired || f.reset

/-- A change of the flags of every tunnel record that a test picks, the list's order kept (R48). -/
def flagRecords (s : State) (which : TunnelRecord → Bool) (flag : Flags → Flags) : State :=
  { s with tunnel := { s.tunnel with
      list := s.tunnel.list.map fun r => if which r then { r with flags := flag r.flags } else r } }

/-- The required dose of a class, or the greatest of the four for a record without one (R85). -/
def requiredDose (c : Settings) : Option RackClass → Nat
  | some .plate => paramGet c .rqdp
  | some .cup => paramGet c .rqdc
  | some .cutlery => paramGet c .rqdk
  | some .tray => paramGet c .rqdt
  | none => max (max (paramGet c .rqdp) (paramGet c .rqdc)) (max (paramGet c .rqdk) (paramGet c .rqdt))

/-- The required wash time of a class, or the greatest of the four for a record without one (R85). -/
def requiredWash (c : Settings) : Option RackClass → Nat
  | some .plate => paramGet c .rqwp
  | some .cup => paramGet c .rqwc
  | some .cutlery => paramGet c .rqwk
  | some .tray => paramGet c .rqwt
  | none => max (max (paramGet c .rqwp) (paramGet c .rqwc)) (max (paramGet c .rqwk) (paramGet c .rqwt))

/-- The verdict of a record from its class, exposures and flags, against the requirements in use (R86). -/
def verdictOf (c : Settings) (cls : Option RackClass) (dose washTime : Nat) (f : Flags) : Verdict :=
  if f.unvouched then .unknown
  else if requiredDose c cls ≤ dose ∧ requiredWash c cls ≤ washTime ∧ f.door = false ∧ f.halted = false
      ∧ ¬(f.stalled = true ∧ paramGet c .stallrej = 1) then .clean
  else .short

end Sys2Proof.Machine
end

