-- ==== Sys2Proof/Machine/Closing.lean ====
section
/-! DEFINITION. How a record leaves: the wash record and the outbox (R107 to R113), the registry update (R120), and
the closings of chapter 4: as MISSING (R64), of the check (R65) and with RESET (R67). -/

namespace Sys2Proof.Machine

/-- The rack a wash record counts for: its read number's when present, otherwise its rack number's (R107). -/
def countsFor (w : WashRecord) : Option Rack :=
  match w.readNumber with
  | some n => some n
  | none => w.rack

/-- The serial that follows: 999999 is followed by 1 (R109). -/
def serialAfter (n : Nat) : Nat := if n < Config.serialLimit then n + 1 else 1

/-- A wash record appended at the outbox's tail, the next serial advanced, and OUTBOX_HIGH raised by the append
that brings the count from 79 to 80 (R109, R113). -/
def appendRecord (s : State) (w : WashRecord) : State :=
  let t := { s with outbox :=
    { queue := s.outbox.queue ++ [w], nextSerial := serialAfter s.outbox.nextSerial } }
  if s.outbox.queue.length + 1 = Config.outboxHigh then raise t .outboxHigh (countsFor w) else t

/-- A row after a wash record that counts for its rack (R120). -/
def washedRow (w : WashRecord) (r : Row) : Row :=
  { r with
    washCount := saturatingAdd Config.wordLimit r.washCount 1
    lastVerdict := some w.verdict
    lastSerial := some w.serial
    rewashDue := w.verdict != .clean }

/-- The row of the rack a wash record counts for updated, if it is enrolled (R120). -/
def updateCounted (s : State) (w : WashRecord) : State :=
  match countsFor w with
  | none => s
  | some n =>
    match row s n with
    | none => s
    | some r => setRow s n (some (washedRow w r))

/-- Steps 3 and 4 of a closing: the wash record appended, then the registry updated from it (R63). -/
def fileRecord (s : State) (w : WashRecord) : State := updateCounted (appendRecord s w) w

/-- The wash record of a tunnel record closed with the given flags; its exit odometer is absent (R64, R67,
R108). -/
def washOfTunnel (s : State) (r : TunnelRecord) (f : Flags) : WashRecord :=
  { serial := s.outbox.nextSerial, rack := r.rack, readNumber := none, cls := r.cls, entry := some r.entry,
    exit := none, dose := r.dose, washTime := r.washTime, minRinse := r.minRinse,
    verdict := verdictOf s.settings r.cls r.dose r.washTime f, flags := f }

/-- The wash record of an exit check record closed with the given flags and exit odometer (R108). -/
def washOfExit (s : State) (k : ExitRecord) (f : Flags) (exit : Option Odometer) : WashRecord :=
  { serial := s.outbox.nextSerial, rack := k.rack, readNumber := k.readNumber, cls := k.cls, entry := k.entry,
    exit := exit, dose := k.dose, washTime := k.washTime, minRinse := k.minRinse,
    verdict := verdictOf s.settings k.cls k.dose k.washTime f, flags := f }

/-! ## Closing as MISSING (R64) -/

/-- What follows the filing of a MISSING record: EXIT_MISSING with its rack number or none, and its rack placed
LOST (R64). -/
def missingFiled (s : State) (rack : Option Rack) : State :=
  setPlaceOf (raise s .exitMissing rack) rack .lost

/-- A record that has been taken out of the tunnel list closed as MISSING (R64). -/
def closeMissing (s : State) (r : TunnelRecord) : State :=
  missingFiled (fileRecord s (washOfTunnel s r { r.flags with missing := true })) r.rack

/-- A record that has been taken out of the exit check slot closed as MISSING, in a repair (R58 step 1, R64). -/
def closeMissingSlot (s : State) (k : ExitRecord) : State :=
  missingFiled (fileRecord s (washOfExit s k { k.flags with missing := true } none)) k.rack

/-- The tunnel record of a rack found elsewhere removed from the list, wherever it stands in it, and closed as
MISSING (R32, R56, R137). -/
def giveUpTunnelRecord (s : State) (n : Rack) : State :=
  match s.tunnel.list.find? (fun r => r.rack == some n) with
  | none => s
  | some r =>
    closeMissing
      { s with tunnel := { s.tunnel with list := s.tunnel.list.eraseP fun r => r.rack == some n } } r

/-- Whether a record is overdue: its travel beyond XEXIT + EXTOL (R50). -/
def overdue (s : State) (r : TunnelRecord) : Bool := decide (par s .xexit + par s .extol < travel s r.entry)

/-- Whether a record is in the exit window, both ends included (R50). -/
def inWindow (s : State) (r : TunnelRecord) : Bool :=
  decide (par s .xexit ≤ travel s r.entry + par s .extol) && !overdue s r

/-- Overdue heads closed as MISSING one after another, until the list is empty or its head is not overdue
(R51 step 3, R53). -/
def closeOverdue (s : State) : State :=
  (s.tunnel.list.takeWhile (overdue s)).foldl closeMissing
    { s with tunnel := { s.tunnel with list := s.tunnel.list.dropWhile (overdue s) } }

/-! ## Closing the check (R65, R66) -/

/-- The reject lamp lit for 8.0 s (R66). -/
def lightLamp (s : State) : State := { s with tunnel := { s.tunnel with lamp := .on Config.lampTenths } }

/-- The reject lamp put out and its timer stopped (R51 step 1, R66). -/
def lampOff (s : State) : State := { s with tunnel := { s.tunnel with lamp := .off } }

/-- The rack a closed check counts for placed AT_UNLOAD, if its row is enrolled and not QUEUED (R65). -/
def placeUnloaded (s : State) (n : Option Rack) : State :=
  match n with
  | none => s
  | some n => if placeOf s n = some .queued then s else setPlace s n .atUnload

/-- The record in the exit check slot, if there is one, closed: filed, its rack placed AT_UNLOAD, and the lamp
lit for a verdict of SHORT or UNKNOWN (R65, R66). -/
def closeCheck (s : State) : State :=
  match s.tunnel.slot with
  | none => s
  | some k =>
    let w := washOfExit s k k.flags (some k.exit)
    let t := placeUnloaded (fileRecord { s with tunnel := { s.tunnel with slot := none } } w) (countsFor w)
    if w.verdict = .clean then t else lightLamp t

/-- The record in the exit check slot changed, if there is one. -/
def changeSlot (s : State) (f : ExitRecord → ExitRecord) : State :=
  { s with tunnel := { s.tunnel with slot := s.tunnel.slot.map f } }

/-- The record in the slot gets EXIT_UNREAD and the check is closed (R32, R60, R61, R62, R137). -/
def closeCheckUnread (s : State) : State :=
  closeCheck (changeSlot s fun k => { k with flags := { k.flags with exitUnread := true } })

/-- A record of the list moved into the exit check: its exposures and flags kept, its exit odometer the value at
this event (R51 step 4, R55, R58 step 2). -/
def exitRecordOf (r : TunnelRecord) (exit : Odometer) (f : Flags) : ExitRecord :=
  { rack := r.rack, cls := r.cls, entry := some r.entry, exit := exit, dose := r.dose, washTime := r.washTime,
    minRinse := r.minRinse, flags := f, readNumber := none }

/-! ## Closing at XR (R67) -/

/-- A tunnel record closed with RESET, its rack placed UNSEEN, no alert raised for it (R67). -/
def closeResetRecord (s : State) (r : TunnelRecord) : State :=
  setPlaceOf (fileRecord s (washOfTunnel s r { r.flags with reset := true })) r.rack .unseen

/-- The exit check record closed with RESET and without its exit odometer (R67). -/
def closeResetSlot (s : State) : State :=
  match s.tunnel.slot with
  | none => s
  | some k =>
    setPlaceOf
      (fileRecord { s with tunnel := { s.tunnel with slot := none } }
        (washOfExit s k { k.flags with reset := true } none))
      k.rack .unseen

/-- Every record of the block closed with RESET: the exit check first, then the list from head to tail (R67). -/
def closeAllReset (s : State) : State :=
  let t := closeResetSlot s
  t.tunnel.list.foldl closeResetRecord { t with tunnel := { t.tunnel with list := [] } }

end Sys2Proof.Machine
end

