-- ==== Sys2Proof/Machine/Pacing.lean ====
section
/-! DEFINITION. The belt outputs (R94 to R97), the stall timer's loading and ending (R101, R103), the reports of
the hold set (R98) and the speed demand (R82, R95). -/

namespace Sys2Proof.Machine

/-- The longest overrun after a stop ends with the stall timer as given (R103). -/
def overrunAfter (longest : Nat) : StallTimer → Nat
  | .idle | .reached => longest
  | .counting c => if c < 0 then max longest c.natAbs else longest

/-- The run output turns ON: set point, valve, encoder-stall timer and the end of the stall timer (R94). -/
def beltOn (s : State) : State :=
  { s with
    pacing := { s.pacing with
      beltRun := true
      setPoint := s.pacing.speedDemand
      valveOpen := true
      stallTimer := .idle
      longestOverrun := overrunAfter s.pacing.longestOverrun s.pacing.stallTimer }
    belt := { s.belt with timer := .running 0 } }

/-- The stall timer loaded with STALL times 10 (R101). -/
def loadedStall (s : State) : StallTimer := .counting (par s .stall * 10 : Nat)

/-- The run output turns OFF: set point 0, valve closed, encoder-stall timer IDLE, and the stall timer loaded
while the tunnel list holds a record (R94, R101). -/
def beltOff (s : State) : State :=
  { s with
    pacing := { s.pacing with
      beltRun := false
      setPoint := 0
      valveOpen := false
      stallTimer := if s.tunnel.list.isEmpty then s.pacing.stallTimer else loadedStall s }
    belt := { s.belt with timer := .idle } }

/-- Whether the belt is to run: the mode is RUN and the hold set is empty (R94). -/
def beltShouldRun (s : State) : Bool := s.sup.mode == .run && holdSetEmpty s

/-- The run output recomputed; one that stays as it was changes nothing (R94). -/
def recomputeBelt (s : State) : State :=
  if beltShouldRun s = s.pacing.beltRun then s
  else if beltShouldRun s then beltOn s
  else beltOff s

/-- The line-held copies of the line supervisor and of tray intake control set to a report (R98, R148, R157). -/
def reportLineHeld (s : State) (held : Bool) : State :=
  { s with sup := { s.sup with lineHeld := held }, tray := { s.tray with lineHeld := held } }

/-- What follows a change of the hold set from its value in `before`: a report where it went between empty and
non-empty (R98), and the outputs recomputed (R94). -/
def holdsChanged (before after : State) : State :=
  recomputeBelt
    (if holdSetEmpty before = holdSetEmpty after then after else reportLineHeld after (!holdSetEmpty after))

/-- A new speed demand; the set point takes it while the belt runs (R95). -/
def setDemand (s : State) (d : Nat) : State :=
  { s with pacing := { s.pacing with
      speedDemand := d
      setPoint := if s.pacing.beltRun then d else s.pacing.setPoint } }

/-- A speed clamped into VMIN to VNOM (R81, R82). -/
def clampSpeed (c : Settings) (v : Nat) : Nat := min (max v (paramGet c .vmin)) (paramGet c .vnom)

/-- A record appended at the tunnel list's tail; on a stopped belt with the stall timer IDLE the timer is
loaded (R49, R101). -/
def appendTunnelRecord (s : State) (r : TunnelRecord) : State :=
  { s with
    tunnel := { s.tunnel with list := s.tunnel.list ++ [r] }
    pacing := { s.pacing with
      stallTimer :=
        if s.pacing.beltRun = false ∧ s.pacing.stallTimer = .idle then loadedStall s else s.pacing.stallTimer } }

end Sys2Proof.Machine
end

