-- ==== Sys2Proof/Machine/Mode.lean ====
section
/-! DEFINITION. A change of line mode handed to the blocks that act on it (R157), and the HALT request (R163). -/

namespace Sys2Proof.Machine

/-- Whether a mode stops the tray belts: LOADING and HALT (R153). -/
def stopsTrays : LineMode → Bool
  | .loading => true
  | .halt _ => true
  | .warming | .parked | .run => false

/-- A tray belt at a change of mode: stopped, its hold timer discarded, on a change to LOADING or HALT;
restarted from STOPPED_LINE on a change away from them, by its HEAD FULL switch (R153). -/
def trayAtModeChange (old new : LineMode) (headFull : Bool) (c : TrayChannel) : TrayChannel :=
  if stopsTrays new then { c with state := .stoppedLine }
  else if stopsTrays old ∧ c.state = .stoppedLine then
    { c with state := if headFull then .stoppedFull else .running }
  else c

/-- Whether the return belt runs: WARMING, PARKED or RUN, with RETURN END FULL inactive (R145). -/
def returnBeltShouldRun (s : State) : Bool := !stopsTrays s.sup.mode && !isActive s .rf

/-- The return belt output recomputed (R145). -/
def recomputeReturnBelt (s : State) : State :=
  { s with returns := { s.returns with returnBelt := returnBeltShouldRun s } }

/-- Every diverter output OFF (R141). -/
def divertersOff (s : State) : State :=
  { s with returns := { s.returns with diverters := Vector.replicate 4 .off } }

/-- The tray belts at a change of mode from `old` (R153). -/
def traysAtModeChange (old : LineMode) (s : State) : State :=
  { s with tray := { s.tray with
      north := trayAtModeChange old s.sup.mode (isActive s .fn) s.tray.north
      south := trayAtModeChange old s.sup.mode (isActive s .fs) s.tray.south } }

/-- The mode changed and handed to the pacing controller (R94), tray intake control (R153) and the return
dispatcher (R141, R145); a change to RUN sets the run-on count to 0 (R160, R161). The entry stop follows the
mode by itself (R29), and admission control decides a waiting rack again when the event settles (R35). -/
def changeMode (s : State) (m : LineMode) : State :=
  let t := { s with sup := { s.sup with mode := m, runOn := if m = .run then 0 else s.sup.runOn } }
  let u := recomputeReturnBelt (traysAtModeChange s.sup.mode (recomputeBelt t))
  if m.isHalt then divertersOff u else u

/-- A HALT request (R163): the cause replaces any earlier one, every tunnel record receives HALTED, ESTOP is
raised for its own cause, and a mode that is not HALT becomes HALT. -/
def requestHalt (s : State) (cause : HaltCause) : State :=
  let t := flagRecords s (fun _ => true) fun f => { f with halted := true }
  let u := if cause = .estop then raise t .estop none else t
  if s.sup.mode.isHalt then { u with sup := { u.sup with mode := .halt cause } } else changeMode u (.halt cause)

end Sys2Proof.Machine
end

