-- ==== Sys2Proof/Machine/Approach.lean ====
section
/-! DEFINITION. Admission control (chapter 3): the decision and its re-evaluation (R33 to R35), admission (R36),
the held outcome (R37), the entry eye (R38, R41), the lapse (R39) and the approach eye (R30, R42). -/

namespace Sys2Proof.Machine

/-- The state with the approach stage replaced. -/
def setStage (s : State) (g : Stage) : State := { s with stage := g }

/-! ## The decision (R33, R34) -/

/-- Whether test 1 passes: the mode is RUN or PARKED and the line is not draining (R33). -/
def modeAdmits (s : State) : Bool := (s.sup.mode == .run || s.sup.mode == .parked) && !s.sup.draining

/-- Tests 5 to 7: FULL, OUTBOX, SPACING; `none` when all pass (R33). -/
def roomReason (s : State) : Option WaitReason :=
  if Config.tunnelLimit ≤ s.tunnel.list.length then some .full
  else if Config.outboxLimit ≤ reservation s then some .outbox
  else
    match s.tunnel.list.getLast? with
    | none => none
    | some tail => if travel s tail.entry < par s .spacing then some .spacing else none

/-- The first reason that applies to the rack at the stop; `none` when it is to be admitted (R33, R34). A vacant
row with AUTOENROL 1 is enrolled at test 3 and goes on as an enrolled one. -/
def waitReason (s : State) (o : ReadOutcome) : Option WaitReason :=
  if modeAdmits s = false then some .mode
  else
    match o with
    | .read n =>
      match row s n with
      | some w => if w.retired then some .retired else roomReason s
      | none => if par s .autoEnrol = 0 then some .unenrolled else roomReason s
    | .unread => if par s .admitUnread = 0 then some .unread else roomReason s

/-- The enrolment made when the decision reaches test 3 with a vacant row and AUTOENROL 1 (R34). An en-route entry
that has come to carry the number since the read gives it up, so that QUEUED is the rack's one place (R119; DEDUCED,
log entry 22). -/
def autoEnrol (s : State) (o : ReadOutcome) : State :=
  match o with
  | .unread => s
  | .read n =>
    if modeAdmits s && (row s n).isNone && par s .autoEnrol != 0 then
      removeEnRoute (setRow s n (some (newRow s.settings.autoClass .queued))) n
    else s

/-- The rack a read outcome names. -/
def ReadOutcome.rack? : ReadOutcome → Option Rack
  | .read n => some n
  | .unread => none

/-- The pending admission made for a stop outcome (R36). -/
def pendingOf (s : State) : ReadOutcome → Pending
  | .read n =>
    { rack := some n, cls := classOf s n, rewash := ((row s n).map Row.rewashDue).getD false }
  | .unread => { rack := none, cls := none, rewash := false }

/-- The wake request: PARKED becomes RUN, and any other mode stays (R160). -/
def wake (s : State) : State := if s.sup.mode = .parked then changeMode s .run else s

/-- The rack at the stop admitted (R36): the pending admission created with lapse count 0, its rack placed
ADMITTING, the run-on count restarted, and a parked line woken. An en-route entry that has come to carry the number
since the read gives it up: a pending admission carries no number that the en-route list holds (R29, R119; DEDUCED,
log entry 22). -/
def admitRack (s : State) (o : ReadOutcome) : State :=
  let t := setPlaceOf (removeEnRouteOf (setStage s (.admitting (pendingOf s o) 0 none)) o.rack?) o.rack? .admitting
  wake { t with sup := { t.sup with runOn := 0 } }

/-- The admission decision made on an outcome: the rack is admitted, or it waits with the first reason;
ENTRY_REFUSED is raised as RETIRED or UNENROLLED becomes the reason (R31, R33, R34). -/
def decideAdmission (s : State) (o : ReadOutcome) : State :=
  match waitReason s o with
  | none => admitRack (autoEnrol s o) o
  | some r =>
    let t := setStage (autoEnrol s o) (.waiting r o)
    if r = .retired ∨ r = .unenrolled then raise t .entryRefused o.rack? else t

/-- Whether a reason is permanent for the rack at the stop (R34). -/
def WaitReason.permanent : WaitReason → Bool
  | .retired | .unenrolled | .unread => true
  | .mode | .full | .outbox | .spacing => false

/-- A rack waiting for a reason that is not permanent decided again on its kept stop outcome (R35). -/
def reevaluate (s : State) : State :=
  match s.stage with
  | .waiting r o => if r.permanent then s else decideAdmission s o
  | .empty | .reading | .admitting _ _ _ => s

/-! ## The end of a pending admission (R38, R39) -/

/-- The stage after a pending admission has ended: READING with the held outcome decided at once, or a read
awaited or requested, while the approach eye is blocked; EMPTY while it is clear (R38, R39). -/
def resumeApproach (s : State) (held : Option ReadOutcome) : State :=
  if isActive s .ap then
    match held with
    | some o => decideAdmission (setStage s .reading) o
    | none => requestRead (setStage s .reading) .entry
  else setStage s .empty

/-- A pending admission ended as in a lapse: ENTRY_MISS with its rack number or none, its rack placed UNSEEN,
and the stage as the approach eye stands (R39, R56, R137). -/
def endPending (s : State) : State :=
  match s.stage with
  | .admitting p _ held =>
    resumeApproach (setPlaceOf (raise (setStage s .reading) .entryMiss p.rack) p.rack .unseen) held
  | .empty | .reading | .waiting _ _ => s

/-- Admission control at a travel event: the lapse count rises and the admission lapses at ADMITLAPSE (R39). -/
def lapseStep (s : State) : State :=
  match s.stage with
  | .admitting p n held =>
    let t := setStage s (.admitting p (n + 1) held)
    if par s .admitLapse ≤ n + 1 then endPending t else t
  | .empty | .reading | .waiting _ _ => s

/-! ## The approach read (R31, R32, R37) -/

/-- READ n taken at the approach: every other collection gives rack n up, and an enrolled rack is placed QUEUED
(R32). -/
def claimAtApproach (s : State) (n : Rack) : State :=
  match placeOf s n with
  | none => removeEnRoute s n
  | some .inTunnel => setPlace (giveUpTunnelRecord s n) n .queued
  | some .atExit => setPlace (closeCheckUnread s) n .queued
  | some .onReturn => setPlace (removeEnRoute s n) n .queued
  | some .unseen | some .queued | some .admitting | some .atUnload | some (.atStation _)
  | some .atReturnEnd | some .lost => setPlace s n .queued

/-- An approach read in READING: R32 for READ n, then the decision (R31). -/
def approachRead (s : State) (o : ReadOutcome) : State :=
  match o with
  | .read n => decideAdmission (claimAtApproach s n) o
  | .unread => decideAdmission s o

/-- The rack of a stop outcome or a held outcome that ends placed UNSEEN, if its row is enrolled, whatever its place
was (R37, R42, R118). An en-route entry that has come to carry it since the read gives it up, as R119 and R136 then
ask (DEDUCED, log entry 21). -/
def leaveStop (s : State) (rack : Option Rack) : State :=
  match rack with
  | some n => if (row s n).isSome then setPlace (removeEnRoute s n) n .unseen else s
  | none => s

/-- The rack of a held outcome that is discarded or replaced leaves the stop (R37, R118). `kept` is the rack that the
new outcome names. -/
def dropHeld (s : State) (held : Option ReadOutcome) (kept : Option Rack) : State :=
  match held with
  | some (.read m) => if kept = some m then s else leaveStop s (some m)
  | some .unread => s
  | none => s

/-- An outcome taken in ADMITTING (R37): READ of the pending rack ends its admission and is decided as the read
of the rack at the stop; any other outcome becomes the held outcome. -/
def heldOutcome (s : State) (p : Pending) (lapse : Nat) (held : Option ReadOutcome) (o : ReadOutcome) : State :=
  match o with
  | .read n =>
    if placeOf s n = some .admitting then
      let t := dropHeld (raise (setStage s .reading) .entryMiss (some n)) held (some n)
      approachRead (setPlace t n .queued) o
    else setStage (dropHeld (claimAtApproach s n) held (some n)) (.admitting p lapse (some o))
  | .unread => setStage (dropHeld s held none) (.admitting p lapse (some o))

/-- An ENTRY outcome of READ n or UNREAD by the stage it finds (R31, R37). -/
def entryOutcome (s : State) (o : ReadOutcome) : State :=
  match s.stage with
  | .reading => approachRead s o
  | .admitting p lapse held => heldOutcome s p lapse held o
  | .empty | .waiting _ _ => s

/-! ## The approach eye (R30, R42) -/

/-- The approach eye becomes blocked (R30). -/
def approachBlocked (s : State) : State :=
  match s.stage with
  | .empty => setStage s .reading
  | .reading | .waiting _ _ | .admitting _ _ _ => s

/-- The approach eye clears, plainly or with ABANDONED (R37, R42). -/
def approachClear (s : State) : State :=
  match s.stage with
  | .empty => s
  | .reading => setStage s .empty
  | .waiting _ o => leaveStop (setStage s .empty) o.rack?
  | .admitting p lapse held => dropHeld (setStage s (.admitting p lapse none)) held none

/-! ## The entry eye (R38, R41) -/

/-- The tunnel record of a rack that passes the entry eye, at this event's odometer (R38, R41). -/
def newTunnelRecord (s : State) (rack : Option Rack) (cls : Option RackClass) (f : Flags) : TunnelRecord :=
  { rack := rack, cls := cls, entry := s.belt.odometer, dose := 0, washTime := 0, minRinse := none, flags := f }

/-- A forced entry (R41): an anonymous FORCED record where the two limits allow, and ENTRY_FORCED with the
untracked mark where they do not. -/
def forcedEntry (s : State) : State :=
  if s.tunnel.list.length < Config.tunnelLimit ∧ reservation s + 1 ≤ Config.outboxLimit then
    raise (appendTunnelRecord s (newTunnelRecord s none none { anon := true, forced := true })) .entryForced none
  else raiseMarked s .entryForced none true

/-- The entry eye becomes blocked: the pending admission becomes the tail of the tunnel list (R38), or, with
none present, the entry is forced (R41). -/
def entryEyeBlocked (s : State) : State :=
  match s.stage with
  | .admitting p _ held =>
    let f : Flags := { anon := p.rack.isNone, rewash := p.rewash }
    let t := appendTunnelRecord s (newTunnelRecord s p.rack p.cls f)
    resumeApproach (setPlaceOf (setStage t .reading) p.rack .inTunnel) held
  | .empty | .reading | .waiting _ _ => forcedEntry s

/-! ## What every event settles (R35, R161, R162) -/

/-- Whether a draining RUN line has become empty (R162). -/
def drainEnds (s : State) : Bool := s.sup.mode == .run && s.sup.draining && lineEmpty s

/-- Whether run-on parks the line: RUN, empty, not draining, not held, and the count at or above RUNON (R161). -/
def runOnEnds (s : State) : Bool :=
  s.sup.mode == .run && lineEmpty s && !s.sup.draining && !s.sup.lineHeld
    && decide (par s .runon ≤ s.sup.runOn)

/-- The end of a drain: PARKED, draining clear, and a waiting rack decided again (R162, R35). -/
def drainTest (s : State) : State :=
  if drainEnds s then
    reevaluate (changeMode { s with sup := { s.sup with draining := false } } .parked)
  else s

/-- The run-on test: PARKED, the count 0, and a waiting rack decided again (R161, R35). -/
def runOnTest (s : State) : State :=
  if runOnEnds s then
    reevaluate (changeMode { s with sup := { s.sup with runOn := 0 } } .parked)
  else s

/-- The run-on count is 0 after each event that leaves the line not empty (R161). -/
def runOnWhileOccupied (s : State) : State :=
  if lineEmpty s then s else { s with sup := { s.sup with runOn := 0 } }

/-- What one event leads to once its own changes are made, on that same event: a waiting rack decided again
(R35), the run-on count of a line that is not empty (R161), the end of a drain (R162) and the run-on test
(R161). Each test is made on the state as it stands, so where nothing relevant has changed it changes nothing
(log entry 9). -/
def settle (s : State) : State := runOnTest (drainTest (runOnWhileOccupied (reevaluate s)))

end Sys2Proof.Machine
end

