-- ==== Sys2Proof/Machine/ExitCheck.lean ====
section
/-! DEFINITION. The exit eye (R51, R52, R61) and the exit check (R55 to R62). -/

namespace Sys2Proof.Machine

/-- The state with the exit check slot filled or emptied. -/
def setSlot (s : State) (k : Option ExitRecord) : State := { s with tunnel := { s.tunnel with slot := k } }

/-- Rack n, found at the exit, given up by the collection that claims it elsewhere (R56). -/
def claimAtExit (s : State) (n : Rack) : State :=
  match placeOf s n with
  | none => removeEnRoute s n
  | some .inTunnel => giveUpTunnelRecord s n
  | some .admitting => endPending s
  | some .onReturn => removeEnRoute s n
  | some .unseen | some .queued | some .atExit | some .atUnload | some (.atStation _)
  | some .atReturnEnd | some .lost => s

/-! ## The exit eye (R51, R52, R61) -/

/-- The EXTRA record of a rack at the exit eye with no record to match it (R52). -/
def extraRecord (s : State) : ExitRecord :=
  { rack := none, cls := none, entry := none, exit := s.belt.odometer, dose := 0, washTime := 0, minRinse := none,
    flags := { extra := true }, readNumber := none }

/-- A rack at the exit eye with the list empty or its head early: EXIT_EXTRA, and an EXTRA record where the
reservation leaves room, or EXTRA_UNLOGGED where it does not (R52). -/
def extraAtExit (s : State) : State :=
  let t := raise s .exitExtra none
  if reservation s + 1 ≤ Config.outboxLimit then setSlot t (some (extraRecord s)) else raise t .extraUnlogged none

/-- Steps 4 and 5 at the exit eye: the head in the window becomes the exit check record, and a rack that meets
no such head is EXTRA (R51). -/
def matchHead (s : State) : State :=
  match s.tunnel.list with
  | [] => extraAtExit s
  | h :: rest =>
    if inWindow s h then
      setPlaceOf
        { s with tunnel := { s.tunnel with list := rest, slot := some (exitRecordOf h s.belt.odometer h.flags) } }
        h.rack .atExit
    else extraAtExit s

/-- The exit eye becomes blocked (R51). The slot is empty at step 2; with an occupied slot, which cannot arise,
nothing is taken into it (log entry 6). -/
def exitEyeBlocked (s : State) : State :=
  match (lampOff s).tunnel.slot with
  | none => matchHead (closeOverdue (lampOff s))
  | some _ => lampOff s

/-- The exit eye clears, plainly or with ABANDONED: an occupied check gets EXIT_UNREAD and is closed (R61). -/
def exitEyeClear (s : State) : State := closeCheckUnread s

/-! ## The outcome of an EXIT read (R57 to R62) -/

/-- The record in the slot takes a rack number and the class of its row (R57 naming, R62). -/
def nameSlot (s : State) (n : Rack) : State := changeSlot s fun k => { k with rack := some n, cls := classOf s n }

/-- Naming, and the READ of an EXTRA record: the number and class written into the record, the rack given up
elsewhere, and the check closed (R57, R62). -/
def nameAndClose (s : State) (n : Rack) : State := closeCheck (claimAtExit (nameSlot s n) n)

/-- The repair (R58): the slot's record K closed as MISSING, then the head H taken into the slot with REPAIRED
and closed at once. -/
def repairExit (s : State) (k : ExitRecord) (h : TunnelRecord) : State :=
  let t := closeMissingSlot (setSlot s none) k
  let u := setPlaceOf
    { t with tunnel := { t.tunnel with
        list := t.tunnel.list.tail
        slot := some (exitRecordOf h t.belt.odometer { h.flags with repaired := true }) } }
    h.rack .atExit
  closeCheck u

/-- The SWAP (R59): K keeps its number m and gets the flag and the read number, rack m is placed LOST, rack n is
given up elsewhere, EXIT_SWAP is raised with n, and the check is closed. -/
def swapExit (s : State) (m n : Rack) : State :=
  let t := changeSlot s fun k => { k with flags := { k.flags with swap := true }, readNumber := some n }
  closeCheck (raise (claimAtExit (setPlace t m .lost) n) .exitSwap (some n))

/-- READ n with record K in the slot and the head H or none: the first case of R57 that applies. -/
def exitRead (s : State) (k : ExitRecord) (n : Rack) : State :=
  if k.rack = some n then closeCheck s
  else
    match s.tunnel.list.head?.filter fun h => h.rack == some n with
    | some h => repairExit s k h
    | none =>
      match k.rack with
      | none => nameAndClose s n
      | some m => swapExit s m n

/-- An EXIT outcome of READ n or UNREAD (R57, R60, R62); with the slot empty it is discarded. -/
def exitOutcome (s : State) (o : ReadOutcome) : State :=
  match s.tunnel.slot, o with
  | none, _ => s
  | some _, .unread => closeCheckUnread s
  | some k, .read n => if k.flags.extra then nameAndClose s n else exitRead s k n

end Sys2Proof.Machine
end

