-- ==== Sys2Proof/Machine/Dispatcher.lean ====
section
/-! DEFINITION. The return dispatcher (chapter 9): the return gate (R137 to R139), the diverter eyes (R140, R141), the
return end (R142) and the deadlines (R143). -/

namespace Sys2Proof.Machine

/-! ## The return gate (R137 to R139) -/

/-- Rack n, read at the return gate, given up by the collection that claims it elsewhere (R137). -/
def claimAtReturn (s : State) (n : Rack) : State :=
  match placeOf s n with
  | none => removeEnRoute s n
  | some .inTunnel => giveUpTunnelRecord s n
  | some .atExit => closeCheckUnread s
  | some .admitting => endPending s
  | some .onReturn => removeEnRoute s n
  | some .queued | some (.atStation _) | some .unseen | some .atUnload | some .atReturnEnd | some .lost => s

/-- Whether a set of classes holds a class (R133). -/
def acceptsClass (a : ClassSet) : RackClass → Bool
  | .plate => a.plate
  | .cup => a.cup
  | .cutlery => a.cutlery
  | .tray => a.tray

/-- The round-robin pointer of a class (R138). -/
def pointerOf (p : Pointers) : RackClass → Station
  | .plate => p.plate
  | .cup => p.cup
  | .cutlery => p.cutlery
  | .tray => p.tray

/-- The pointers with that of one class set (R138). -/
def setPointer (p : Pointers) (c : RackClass) (n : Station) : Pointers :=
  match c with
  | .plate => { p with plate := n }
  | .cup => { p with cup := n }
  | .cutlery => { p with cutlery := n }
  | .tray => { p with tray := n }

/-- The occupancy of a station for the choice of a rack's target: its own former place is not counted (R138). -/
def occupancyWithout (s : State) (n : Rack) (m : Station) : Nat :=
  if placeOf s n = some (.atStation m) then occupancy s m - 1 else occupancy s m

/-- Whether a station is a candidate for rack n of class c: open, taking the class, occupancy below capacity
(R138). -/
def isCandidate (s : State) (n : Rack) (c : RackClass) (m : Station) : Bool :=
  let e := s.returns.stations[m]
  e.isOpen && acceptsClass e.accepted c && decide (occupancyWithout s n m < e.capacity)

/-- The stations in the cyclic order that begins after a pointer (R138). -/
def stationsAfter (p : Station) : List Station := [p + 1, p + 2, p + 3, p]

/-- The target that dispatch chooses: the first candidate after the class's pointer, or none (R138). -/
def dispatchTarget (s : State) (n : Rack) (c : RackClass) : Option Station :=
  (stationsAfter (pointerOf s.returns.pointers c)).find? (isCandidate s n c)

/-- The pointer of a class set to the chosen station; with none chosen it is left as it was (R138). -/
def movePointer (s : State) (c : RackClass) : Option Station → State
  | none => s
  | some m => { s with returns := { s.returns with pointers := setPointer s.returns.pointers c m } }

/-- REWASH_SKIPPED and the mark cleared, for a rack that carries it into dispatch (R122, R138). -/
def skipRewash (s : State) (n : Rack) (w : Row) : State :=
  if w.rewashDue then setRow (raise s .rewashSkipped (some n)) n (some { w with rewashDue := false }) else s

/-- What follows the loss of an entry that has left the list: RETURN_LOST with its number or none, and its rack
placed LOST (R139, R143). -/
def loseRack (s : State) (e : EnRoute) : State := setPlaceOf (raise s .returnLost e.rack) e.rack .lost

/-- The oldest entry dropped from a list that already holds 24: RETURN_LOST with its number or none, and its
rack placed LOST (R139). -/
def dropOldest (s : State) : State :=
  match s.returns.enRoute with
  | [] => s
  | e :: rest =>
    if Config.enRouteLimit ≤ s.returns.enRoute.length then
      loseRack { s with returns := { s.returns with enRoute := rest } } e
    else s

/-- A deadline as it starts: RETLEG times 10 tenths (R139, R140). -/
def freshDeadline (s : State) : Nat := par s .retleg * 10

/-- An entry appended at the tail, after the drop, and its rack placed ON_RETURN (R139). -/
def appendEnRoute (s : State) (rack : Option Rack) (target : Option Station) : State :=
  let t := dropOldest s
  setPlaceOf
    { t with returns := { t.returns with
        enRoute := t.returns.enRoute ++
          [{ rack := rack, target := target, lastEye := 0, deadline := freshDeadline s }] } }
    rack .onReturn

/-- READ n at the return gate once the other collections have given rack n up: the table of R138 and the append
of R139. `wasQueued` says that the place found was QUEUED. -/
def dispatchRead (s : State) (n : Rack) (wasQueued : Bool) : State :=
  if wasQueued then appendEnRoute s none none
  else
    match row s n with
    | none => appendEnRoute s (some n) none
    | some w =>
      if w.retired then appendEnRoute s (some n) none
      else
        let t := skipRewash s n w
        let target := dispatchTarget t n w.cls
        appendEnRoute (movePointer t w.cls target) (some n) target

/-- An outcome of the RETURN read, UNREAD standing for ABANDONED too: one entry appended (R137 to R139). -/
def returnOutcome (s : State) (o : ReadOutcome) : State :=
  match o with
  | .unread => appendEnRoute s none none
  | .read n => dispatchRead (claimAtReturn s n) n (placeOf s n == some .queued)

/-! ## The eyes of the return belt (R140 to R142) -/

/-- The diverter of a station pulsed for 600 ms; in HALT the output does not turn ON (R141). -/
def pulseDiverter (s : State) (k : Station) : State :=
  if s.sup.mode.isHalt then s
  else { s with returns := { s.returns with diverters := s.returns.diverters.set k (.pulsing Config.pulseTenths) } }

/-- The position of the oldest entry with the given last-eye (R140, R142). -/
def oldestAt (s : State) (lastEye : Nat) : Option Nat := s.returns.enRoute.findIdx? fun e => e.lastEye == lastEye

/-- The entry at a position removed, the others kept in their order (R136). -/
def removeEntry (s : State) (i : Nat) : State :=
  { s with returns := { s.returns with enRoute := s.returns.enRoute.eraseIdx i } }

/-- The entry at a position moved on: last-eye k and a fresh deadline (R140). -/
def moveEntryOn (s : State) (i : Nat) (lastEye : Nat) : State :=
  { s with returns := { s.returns with
      enRoute := s.returns.enRoute.modify i fun e => { e with lastEye := lastEye, deadline := freshDeadline s } } }

/-- The diverter eye of station S(k+1) becomes blocked (R140): the oldest entry that has passed the eye before is
diverted at its target or moved on; with none, RETURN_STRAY. -/
def diverterEyeBlocked (s : State) (k : Station) : State :=
  match oldestAt s k.val with
  | none => raise s .returnStray none
  | some i =>
    match s.returns.enRoute[i]? with
    | none => s
    | some e =>
      if e.target = some k then setPlaceOf (removeEntry (pulseDiverter s k) i) e.rack (.atStation k)
      else moveEntryOn s i (k.val + 1)

/-- The return end eye becomes blocked (R142). -/
def returnEndBlocked (s : State) : State :=
  match oldestAt s 4 with
  | none => raise s .returnStray none
  | some i =>
    match s.returns.enRoute[i]? with
    | none => s
    | some e => setPlaceOf (removeEntry s i) e.rack .atReturnEnd

/-- Whether an entry's deadline has at most one tenth left, which its next tenth takes to 0 (R143). -/
def lastTenth (e : EnRoute) : Bool := decide (e.deadline ≤ 1)

/-- The last tenth of the deadline of the entry at a position: the entry is removed and lost. Deadlines count only
while the return belt output is ON, and an entry with more than a tenth left, one that has been moved on at an eye
among them, does not expire (R143). -/
def loseEntry (s : State) (i : Nat) : State :=
  match s.returns.enRoute[i]? with
  | none => s
  | some e => if s.returns.returnBelt && lastTenth e then loseRack (removeEntry s i) e else s

end Sys2Proof.Machine
end

