-- ==== Sys2Proof/Machine/TrayIntake.lean ====
section
/-! DEFINITION. Tray intake control (chapter 10): arrivals (R150), HEAD FULL (R152), the hold timer (R151) and
congestion (R148, R149). The tray belts' part in a mode change is in Mode.lean (R153). -/

namespace Sys2Proof.Machine

/-- One tray belt. -/
def trayChannel (s : State) : TrayBelt → TrayChannel
  | .north => s.tray.north
  | .south => s.tray.south

/-- The state with one tray belt replaced. -/
def setTrayChannel (s : State) (b : TrayBelt) (c : TrayChannel) : State :=
  match b with
  | .north => { s with tray := { s.tray with north := c } }
  | .south => { s with tray := { s.tray with south := c } }

/-- A tray reaches the head of a belt (R150): in RUNNING it is held, leaks or runs on, by the congested flag and
the hold count; in the other states nothing changes. -/
def trayArrives (s : State) (b : TrayBelt) : State :=
  let c := trayChannel s b
  if c.state ≠ .running then s
  else if s.tray.congested = false then setTrayChannel s b { c with holdCount := 0 }
  else if c.holdCount < par s .holdlim then
    setTrayChannel s b { c with state := .held (par s .holdt * 10), holdCount := c.holdCount + 1 }
  else
    raise
      (setTrayChannel s b
        { c with holdCount := 0, leakCount := saturatingAdd Config.wordLimit c.leakCount 1 })
      .trayLeak none

/-- HEAD FULL becomes active or inactive (R152). A running hold timer is discarded with HELD. -/
def headFullChange (s : State) (b : TrayBelt) (active : Bool) : State :=
  let c := trayChannel s b
  match active, c.state with
  | true, .running | true, .held _ => setTrayChannel s b { c with state := .stoppedFull }
  | false, .stoppedFull => setTrayChannel s b { c with state := .running }
  | true, .stoppedFull | true, .stoppedLine | false, .running | false, .held _ | false, .stoppedLine => s

/-- The last tenth of a held belt's hold timer: the belt runs, its hold count kept (R151). -/
def holdTimerEnds (s : State) (b : TrayBelt) : State :=
  let c := trayChannel s b
  match c.state with
  | .held n => if n ≤ 1 then setTrayChannel s b { c with state := .running } else s
  | .running | .stoppedFull | .stoppedLine => s

/-- The congestion condition (R148). -/
def congestionCondition (s : State) : Bool :=
  (match s.stage with
    | .waiting .mode _ | .waiting .full _ | .waiting .outbox _ => true
    | .waiting .retired _ | .waiting .unenrolled _ | .waiting .unread _ | .waiting .spacing _
    | .empty | .reading | .admitting _ _ _ => false)
  || (s.sup.mode == .run && s.tray.lineHeld)

/-- The congestion timer's limit, CONGD times 10 tenths (R149). -/
def congestionLimit (s : State) : Nat := par s .congd * 10

/-- The congestion timer set, and the flag with it: set exactly while the timer stands at its limit (R149). -/
def setCongestion (s : State) (n : Nat) : State :=
  { s with tray := { s.tray with congestionTimer := n, congested := n == congestionLimit s } }

/-- The congestion timer at a 0.1 s step (R149). -/
def congestionStep (s : State) : State :=
  setCongestion s
    (if congestionCondition s then min (congestionLimit s) (s.tray.congestionTimer + 1) else 0)

end Sys2Proof.Machine
end

