-- ==== Sys2Proof/Machine/Belt.lean ====
section
/-! DEFINITION. The encoder commands (chapter 1): FORWARD_PULSE, REVERSE_PULSE and ENC_STALL. -/

namespace Sys2Proof.Machine

/-- The belt tracker at a travel event: the odometer advances, wrapping to 0, and the reverse count and the
reverse accumulator are set to 0 (R3, R5, R6). -/
def advanceOdometer (s : State) : State :=
  { s with belt := { s.belt with odometer := s.belt.odometer + 1, reverseAcc := 0, reverseCount := 0 } }

/-- Whether a travel event counts towards run-on: RUN, empty, not draining, not held (R161). -/
def countsRunOn (s : State) : Bool :=
  s.sup.mode == .run && lineEmpty s && !s.sup.draining && !s.sup.lineHeld

/-- The run-on count at a travel event that counts (R161). -/
def runOnStep (s : State) : State :=
  if countsRunOn s then { s with sup := { s.sup with runOn := s.sup.runOn + 1 } } else s

/-- One travel event, handed to its owners with the odometer at its new value (R3, R4). They take no order among
themselves; here the run-on count is judged on the line as the event finds it, then the lapse, then the
overdue head (DESIGN CHOICE, log entry 8). -/
def travelEvent (s : State) : State := settle (closeOverdue (lapseStep (runOnStep (advanceOdometer s))))

/-- n travel events, one after the other (R3). -/
def travelEvents (s : State) : Nat → State
  | 0 => s
  | n + 1 => travelEvents (travelEvent s) n

/-- A forward pulse restarts the count of a RUNNING encoder-stall timer (R8). -/
def encoderSeen : EncoderTimer → EncoderTimer
  | .running _ => .running 0
  | .idle => .idle
  | .expired => .expired

/-- The pulses still owed: an accumulator and how many times EPM can be taken out of it (R3, R6). -/
def forwardCount (s : State) : State :=
  { s with belt := { s.belt with
      forwardAcc := (s.belt.forwardAcc + 100) % par s .epm
      timer := encoderSeen s.belt.timer } }

/-- FORWARD_PULSE (R1, R3, R8). -/
def execForwardPulse (s : State) : Host.Outcome State Fault Refusal :=
  .next (travelEvents (forwardCount s) ((s.belt.forwardAcc + 100) / par s .epm))

/-- One reverse millimetre (R6, R7): at 50 it is dropped; the one that brings the count to 50 raises
BELT_REVERSE and requests a HALT. -/
def reverseMillimetre (s : State) : State :=
  if Config.reverseLimit ≤ s.belt.reverseCount then s
  else
    let t := { s with belt := { s.belt with reverseCount := s.belt.reverseCount + 1 } }
    if s.belt.reverseCount + 1 = Config.reverseLimit then
      settle (requestHalt (raise t .beltReverse none) .beltReverse)
    else t

/-- n reverse millimetres, one after the other (R6). -/
def reverseMillimetres (s : State) : Nat → State
  | 0 => s
  | n + 1 => reverseMillimetres (reverseMillimetre s) n

/-- REVERSE_PULSE (R1, R6, R7). -/
def execReversePulse (s : State) : Host.Outcome State Fault Refusal :=
  .next
    (reverseMillimetres
      { s with belt := { s.belt with reverseAcc := (s.belt.reverseAcc + 100) % par s .epm } }
      ((s.belt.reverseAcc + 100) / par s .epm))

/-- Whether the next tenth brings the count of a RUNNING encoder-stall timer to 30 (R9). -/
def encoderLastTenth (s : State) : Bool :=
  match s.belt.timer with
  | .running n => decide (Config.encoderStallLimit ≤ n + 1)
  | .idle | .expired => false

/-- The expiry of the encoder-stall timer (R9): it becomes EXPIRED, ENC_STALL is raised, and a HALT is requested,
which turns the belt run output off and the timer with it to IDLE. -/
def encoderExpiry (s : State) : State :=
  requestHalt (raise { s with belt := { s.belt with timer := .expired } } .encStall none) .encStall

/-- ENC_STALL (R9): the thirtieth tenth of a RUNNING timer. A timer that a pulse has restarted, and one that is IDLE
or EXPIRED, does not expire (log entry 5). -/
def execEncStall (s : State) : Host.Outcome State Fault Refusal :=
  .next (if encoderLastTenth s then settle (encoderExpiry s) else s)

end Sys2Proof.Machine
end

