-- ==== Sys2Proof/Machine/Inputs.lean ====
section
/-! DEFINITION. The field inputs (chapter 2): INPUT_LEVEL_CHANGE and FILTER_TIME_REACHED, with the delivery of each
filtered event to its owner (R20). -/

namespace Sys2Proof.Machine

/-- The channel after its terminal takes a level: a level that reads as the filtered state stops the qualifying
timer, and one that differs starts it from zero; a level that was there already is no change (R17). -/
def levelTaken (highIsActive high : Bool) (c : InputChannel) : InputChannel :=
  if c.level = high then c
  else { c with level := high, qualifying := readsActive highIsActive high != c.filtered }

/-- INPUT_LEVEL_CHANGE (R17). -/
def execInputLevelChange (i : Input) (high : Bool) (s : State) : Host.Outcome State Fault Refusal :=
  .next (setChannel s i (levelTaken s.settings.pol[i.index] high (channel s i)))

/-- A reader's read ended by its gate eye's clear: the reader is IDLE and no attempt is counted (R26). -/
def abandonRead (s : State) (r : Reader) : State := setReader s r { reader s r with attempt := none }

/-- Whether a reader is READING: the clear of its eye then carries ABANDONED (R26). -/
def isReading (s : State) (r : Reader) : Bool := (reader s r).attempt.isSome

/-! ## The events of each owner (R20) -/

/-- A change of a door switch (R92, R99): an opening sets DOOR and flags the records under that door; a closing
clears DOOR when all three doors are closed. -/
def doorChange (s : State) (d : Door) (isOpen : Bool) : State :=
  if isOpen then
    let t := flagRecords s (inDoorSpan s d) fun f => { f with door := true }
    holdsChanged s { t with pacing := { t.pacing with doorCause := true } }
  else
    holdsChanged s
      { s with pacing := { s.pacing with doorCause := isActive s .d1 || isActive s .d2 || isActive s .d3 } }

/-- A change of TABLE FULL sets or clears EXIT (R91). -/
def tableFullChange (s : State) (active : Bool) : State :=
  holdsChanged s { s with pacing := { s.pacing with exitCause := active } }

/-- The approach eye's event: the reader interface's part and admission control's (R20, R30, R42). -/
def approachEye (s : State) (blocked : Bool) : State :=
  if blocked then approachBlocked (startRead s .entry) else approachClear (abandonRead s .entry)

/-- The exit eye's event: the reader interface's part and the tunnel list's (R20, R51, R61). -/
def exitEye (s : State) (blocked : Bool) : State :=
  if blocked then exitEyeBlocked (startRead s .exit) else exitEyeClear (abandonRead s .exit)

/-- The return gate eye's event (R20, section 9.3): a blocked eye starts a read; a clear that abandons one is an
outcome that appends an entry; a plain clear changes nothing. -/
def returnGateEye (s : State) (blocked : Bool) : State :=
  if blocked then startRead s .ret
  else if isReading s .ret then returnOutcome (abandonRead s .ret) .unread
  else s

/-- The filtered event of an input delivered to its owner (R20), with what it leads to on the same event for the
inputs that admission control, the run-on test or the end of a drain can see (R35, R161, R162). -/
def deliver (s : State) (i : Input) (active : Bool) : State :=
  match i with
  | .ap => settle (approachEye s active)
  | .en => if active then settle (entryEyeBlocked s) else s
  | .ex => settle (exitEye s active)
  | .rg => settle (returnGateEye s active)
  | .v1 => if active then diverterEyeBlocked s 0 else s
  | .v2 => if active then diverterEyeBlocked s 1 else s
  | .v3 => if active then diverterEyeBlocked s 2 else s
  | .v4 => if active then diverterEyeBlocked s 3 else s
  | .re => if active then returnEndBlocked s else s
  | .hn => if active then trayArrives s .north else s
  | .hs => if active then trayArrives s .south else s
  | .d1 => settle (doorChange s .d1 active)
  | .d2 => settle (doorChange s .d2 active)
  | .d3 => settle (doorChange s .d3 active)
  | .es => if active then settle (requestHalt s .estop) else s
  | .sk => s
  | .tf => settle (tableFullChange s active)
  | .rf => recomputeReturnBelt s
  | .fn => headFullChange s .north active
  | .fs => headFullChange s .south active

/-- The channel whose filter time has been reached: the filtered state turns over and the timer stops (R17). -/
def filterTurned (c : InputChannel) : InputChannel := { c with filtered := !c.filtered, qualifying := false }

/-- FILTER_TIME_REACHED (R17, R20): a running qualifying timer turns the filtered state over and the owner gets
one event. With the timer stopped there is no filter time to reach, and nothing changes (log entry 5). -/
def execFilterTimeReached (i : Input) (s : State) : Host.Outcome State Fault Refusal :=
  if (channel s i).qualifying then
    .next (deliver (setChannel s i (filterTurned (channel s i))) i (!(channel s i).filtered))
  else .next s

end Sys2Proof.Machine
end

