-- ==== Sys2Proof/Machine/TagReaders.lean ====
section
/-! DEFINITION. The tag readers (section 2.4): READER_ANSWER and ATTEMPT_TIMEOUT. -/

namespace Sys2Proof.Machine

/-- The value of a decimal digit character. -/
def digitValue? (c : Char) : Option Nat :=
  if 48 ≤ c.toNat ∧ c.toNat ≤ 57 then some (c.toNat - 48) else none

/-- A rack of the fleet from its number, 1 to 240. -/
def rackOfNumber? (n : Nat) : Option Rack :=
  if h : 1 ≤ n ∧ n ≤ 240 then some ⟨n - 1, by omega⟩ else none

/-- The check digit of a rack number's three digits (R23). -/
def checkDigit (hundreds tens units : Nat) : Nat := (3 * hundreds + 7 * tens + 9 * units) % 10

/-- The rack that the four characters after the echo name, if the answer is valid (R23): five digit characters
in all, a number from 001 to 240, the right check digit. -/
def validAnswer? (afterEcho : Text) : Option Rack :=
  match afterEcho with
  | [h, t, u, k] =>
    match digitValue? h, digitValue? t, digitValue? u, digitValue? k with
    | some h, some t, some u, some k =>
      if k = checkDigit h t u then rackOfNumber? (100 * h + 10 * t + u) else none
    | _, _, _, _ => none
  | _ => none

/-- A read outcome delivered to the owner of the gate (section 2.4). -/
def deliverOutcome (s : State) (r : Reader) (o : ReadOutcome) : State :=
  match r with
  | .entry => entryOutcome s o
  | .exit => exitOutcome s o
  | .ret => returnOutcome s o

/-- A reader whose attempt a has failed: the failure count rises, and attempt a + 1 begins at once while a is 1
or 2; after the third the reader is IDLE (R25). -/
def attemptFailed (c : ReaderChannel) (a : Nat) : ReaderChannel :=
  { attempt := if a < 3 then some (a + 1) else none,
    failures := saturatingAdd Config.wordLimit c.failures 1 }

/-- Attempt a failed at a reader; the third failure ends the read with UNREAD (R25). -/
def failAttempt (s : State) (r : Reader) (a : Nat) : State :=
  let t := setReader s r (attemptFailed (reader s r) a)
  if a < 3 then t else settle (deliverOutcome t r .unread)

/-- READER_ANSWER (R22, R23, R25): an answer at an IDLE reader, or one that does not echo the attempt awaited,
is discarded; a valid one ends the read with READ n, and any other fails the attempt. The echo is the whole test: a
late answer of a read that has ended is taken for the read in progress where both have the same attempt number
(DEDUCED, log entry 31). -/
def execReaderAnswer (r : Reader) (answer : Text) (s : State) : Host.Outcome State Fault Refusal :=
  match (reader s r).attempt, answer with
  | some a, echo :: rest =>
    if digitValue? echo = some a then
      match validAnswer? rest with
      | some n => .next (settle (deliverOutcome (setReader s r { reader s r with attempt := none }) r (.read n)))
      | none => .next (failAttempt s r a)
    else .next s
  | _, _ => .next s

/-- ATTEMPT_TIMEOUT (R25): 400 ms have passed since the request of the attempt in progress. An IDLE reader awaits
none, and nothing changes. -/
def execAttemptTimeout (r : Reader) (s : State) : Host.Outcome State Fault Refusal :=
  match (reader s r).attempt with
  | some a => .next (failAttempt s r a)
  | none => .next s

end Sys2Proof.Machine
end

