-- ==== Sys2Proof/Machine/Text.lean ====
section
/-! DEFINITION. How the card writes its replies: numbers, names and letters (R178), and the items of each reply's
layout (R112, R128, R129, R179 to R181). -/

namespace Sys2Proof.Machine

/-! ## Numbers and joining -/

/-- The decimal digit of a number below 10. -/
def digitChar (n : Nat) : Char := Char.ofNat (48 + n % 10)

/-- The decimal digits of a number, least significant first, as many as the fuel allows. -/
def digitsUp : Nat → Nat → Text
  | 0, _ => []
  | fuel + 1, n => if n < 10 then [digitChar n] else digitChar n :: digitsUp fuel (n / 10)

/-- A number in decimal, without leading zeros. No number that a reply carries has more than 20 digits. -/
def natText (n : Nat) : Text := (digitsUp 20 n).reverse

/-- A signed count (R179 field 29). -/
def intText (i : Int) : Text := if i < 0 then '-' :: natText i.natAbs else natText i.natAbs

/-- A rack number, always three digits (section 1.6). -/
def rackText (r : Rack) : Text :=
  [digitChar ((r.val + 1) / 100), digitChar ((r.val + 1) / 10), digitChar (r.val + 1)]

/-- A card address, two digits (R173, R174). -/
def addressText (n : Nat) : Text := [digitChar (n / 10), digitChar n]

/-- An upper-case hexadecimal digit. -/
def hexChar (n : Nat) : Char := if n % 16 < 10 then Char.ofNat (48 + n % 16) else Char.ofNat (55 + n % 16)

/-- A check as two upper-case hexadecimal digits (R173, R174). -/
def hexText (n : Nat) : Text := [hexChar (n / 16), hexChar n]

/-- The sum of character codes modulo 256 (R173, R174). -/
def checkSum (t : Text) : Nat := (t.map Char.toNat).sum % 256

/-- Items with a separator character between them (R174, R178). -/
def joinWith (sep : Char) : List Text → Text
  | [] => []
  | [t] => t
  | t :: rest => t ++ sep :: joinWith sep rest

/-- Fields separated by single spaces (R178). -/
def spaced (ts : List Text) : Text := joinWith ' ' ts

/-- The mark of an absent value (R178). -/
def dash : Text := ['-']

/-- A value, or "-" when it is absent (R178). -/
def optText {α : Type} (f : α → Text) : Option α → Text
  | none => dash
  | some a => f a

/-- A letter when a condition holds, and "-" otherwise. -/
def flagLetter (c : Char) (b : Bool) : Text := if b then [c] else dash

/-- 1 or 0. -/
def bitChar (b : Bool) : Char := if b then '1' else '0'

/-- An odometer reading. -/
def odometerText (o : Odometer) : Text := natText o.toNat

/-! ## Names and letters -/

/-- The letter of a class (section 1.3). -/
def classChar : RackClass → Char
  | .plate => 'P'
  | .cup => 'C'
  | .cutlery => 'K'
  | .tray => 'T'

/-- The letter of a class as a field. -/
def classText (c : RackClass) : Text := [classChar c]

/-- A station's number, 1 to 4. -/
def stationText (k : Station) : Text := natText (k.val + 1)

/-- An entry's target: a station's number, or 0 for the return end (R136). -/
def targetText : Option Station → Text
  | none => ['0']
  | some k => stationText k

/-- The classes a station accepts, or "-" for none (R133, R181). The letters stand in the order P, C, K, T whatever
order SS gave them in: DESIGN CHOICE, log entry 30. -/
def classSetText (a : ClassSet) : Text :=
  let t := (if a.plate then ['P'] else []) ++ (if a.cup then ['C'] else [])
    ++ (if a.cutlery then ['K'] else []) ++ (if a.tray then ['T'] else [])
  if t.isEmpty then dash else t

/-- The letters of the flags that are set, in the order of R178, or "-" for none. -/
def flagsText (f : Flags) : Text :=
  let t := ([(f.anon, 'A'), (f.forced, 'F'), (f.rewash, 'W'), (f.door, 'D'), (f.halted, 'H'), (f.stalled, 'S'),
    (f.probeGap, 'G'), (f.exitUnread, 'U'), (f.swap, 'X'), (f.extra, 'E'), (f.missing, 'M'), (f.repaired, 'R'),
    (f.reset, 'Z')].filter Prod.fst).map Prod.snd
  if t.isEmpty then dash else t

/-- The letter of a verdict, as every reply writes it (R178), RR among them, whose worked example in section 8.6
names the verdict SHORT in full (log entry 29). -/
def verdictLetter : Verdict → Text
  | .clean => ['C']
  | .short => ['S']
  | .unknown => ['U']

/-- The name of an alert kind (section 11.6). -/
def alertText : AlertKind → Text
  | .entryMiss => "ENTRY_MISS".toList
  | .entryForced => "ENTRY_FORCED".toList
  | .entryRefused => "ENTRY_REFUSED".toList
  | .exitExtra => "EXIT_EXTRA".toList
  | .exitMissing => "EXIT_MISSING".toList
  | .exitSwap => "EXIT_SWAP".toList
  | .extraUnlogged => "EXTRA_UNLOGGED".toList
  | .tunnelStall => "TUNNEL_STALL".toList
  | .rinseProbe => "RINSE_PROBE".toList
  | .washProbe => "WASH_PROBE".toList
  | .encStall => "ENC_STALL".toList
  | .beltReverse => "BELT_REVERSE".toList
  | .estop => "ESTOP".toList
  | .returnLost => "RETURN_LOST".toList
  | .returnStray => "RETURN_STRAY".toList
  | .rewashSkipped => "REWASH_SKIPPED".toList
  | .trayLeak => "TRAY_LEAK".toList
  | .outboxHigh => "OUTBOX_HIGH".toList
  | .settingsDefault => "SETTINGS_DEFAULT".toList
  | .saveFailed => "SAVE_FAILED".toList

/-- The name of a line mode (section 11.1). -/
def modeText : LineMode → Text
  | .loading => "LOADING".toList
  | .warming => "WARMING".toList
  | .parked => "PARKED".toList
  | .run => "RUN".toList
  | .halt _ => "HALT".toList

/-- The halt cause, or "-" outside HALT (R157). -/
def haltCauseText : LineMode → Text
  | .halt .estop => "ESTOP".toList
  | .halt .encStall => "ENC_STALL".toList
  | .halt .beltReverse => "BELT_REVERSE".toList
  | .loading | .warming | .parked | .run => dash

/-- The name of the store operation (section 11). -/
def storeOpText : StoreOp → Text
  | .none => "NONE".toList
  | .loading _ => "LOADING".toList
  | .saving _ => "SAVING".toList

/-- The name of the last save result (section 11). -/
def saveResultText : SaveResult → Text
  | .none => "NONE".toList
  | .passed => "PASSED".toList
  | .failed => "FAILED".toList

/-- The name of the approach stage (R29). -/
def stageText : Stage → Text
  | .empty => "EMPTY".toList
  | .reading => "READING".toList
  | .waiting _ _ => "WAITING".toList
  | .admitting _ _ _ => "ADMITTING".toList

/-- The name of a WAITING reason (R33). -/
def reasonText : WaitReason → Text
  | .mode => "MODE".toList
  | .retired => "RETIRED".toList
  | .unenrolled => "UNENROLLED".toList
  | .unread => "UNREAD".toList
  | .full => "FULL".toList
  | .outbox => "OUTBOX".toList
  | .spacing => "SPACING".toList

/-- A stop outcome: the rack number, or UNREAD (R45). -/
def outcomeText : ReadOutcome → Text
  | .read n => rackText n
  | .unread => "UNREAD".toList

/-- The name of a tray belt's state (R147). -/
def beltStateText : BeltState → Text
  | .running => "RUNNING".toList
  | .held _ => "HELD".toList
  | .stoppedFull => "STOPPED_FULL".toList
  | .stoppedLine => "STOPPED_LINE".toList

/-- The name of a place, AT_STATION with its station digit after it (R128). -/
def placeText : Place → Text
  | .unseen => "UNSEEN".toList
  | .queued => "QUEUED".toList
  | .admitting => "ADMITTING".toList
  | .inTunnel => "IN_TUNNEL".toList
  | .atExit => "AT_EXIT".toList
  | .atUnload => "AT_UNLOAD".toList
  | .onReturn => "ON_RETURN".toList
  | .atStation k => "AT_STATION".toList ++ stationText k
  | .atReturnEnd => "AT_RETURN_END".toList
  | .lost => "LOST".toList

/-- The RS character of a place (section 8.2). -/
def placeChar : Place → Char
  | .unseen => 'U'
  | .queued => 'Q'
  | .admitting => 'A'
  | .inTunnel => 'T'
  | .atExit => 'X'
  | .atUnload => 'D'
  | .onReturn => 'R'
  | .atStation k => digitChar (k.val + 1)
  | .atReturnEnd => 'E'
  | .lost => 'M'

/-- The RS character of a row: "." vacant, "#" retired, otherwise its place's (R129). -/
def rowChar : Option Row → Char
  | none => '.'
  | some w => if w.retired then '#' else placeChar w.place

/-- A latest sample: its temperature, X for invalid, "-" for none (R179). -/
def sampleText : Sample → Text
  | .none => dash
  | .invalid => ['X']
  | .temp t => natText t

/-- The reason of a hold cause: T, P or S, and "-" while it is clear (R179). -/
def causeText : Option HoldReason → Text
  | none => dash
  | some .temperature => ['T']
  | some .probe => ['P']
  | some .start => ['S']

/-- The stall timer: I, or its signed count (R179). -/
def stallText : StallTimer → Text
  | .idle => ['I']
  | .counting c => intText c
  | .reached => intText 0

/-- A reader's state: I, or the digit of the attempt (R179). -/
def attemptChar : Option Nat → Char
  | none => 'I'
  | some a => digitChar a

/-- The two characters of the read request that a reader has been sent for the attempt in progress, Q and its
digit; an IDLE reader has been sent none that it may still answer (R22, R24, R25; an output computed from the state,
log entry 24). -/
def readRequest (c : ReaderChannel) : Option Text := c.attempt.map fun a => ['Q', digitChar a]

/-- A polarity string: H or L for each input (R16). -/
def polarityText (v : Vector Bool 20) : Text := v.toList.map fun h => if h then 'H' else 'L'

end Sys2Proof.Machine
end

