-- ==== Sys2Proof/Machine/Operands.lean ====
section
/-! DEFINITION. The fields of requests (R175): numeric fields, rack and station numbers, classes, names, and the
NAME=value pairs of PS (R176). -/

namespace Sys2Proof.Machine

/-! ## Numbers (R175) -/

/-- The value of a run of decimal digits, or none where a character is not one. -/
def digitsValue? : Text → Nat → Option Nat
  | [], n => some n
  | c :: rest, n =>
    match digitValue? c with
    | some d => digitsValue? rest (10 * n + d)
    | none => none

/-- One to six decimal digits (R175). -/
def digitField? (f : Text) : Option Nat := if f.length = 0 ∨ 6 < f.length then none else digitsValue? f 0

/-- A numeric field: one to six decimal digits, which may be preceded by "-" (R175). -/
def numericField? : Text → Option Int
  | '-' :: f => (digitField? f).map fun n => -(n : Int)
  | f => (digitField? f).map fun n => (n : Int)

/-- A numeric field whose value lies in a range, both ends included. -/
def rangedField? (lo hi : Nat) (f : Text) : Option Nat :=
  match numericField? f with
  | some v => if (lo : Int) ≤ v ∧ v ≤ (hi : Int) then some v.toNat else none
  | none => none

/-- A rack field: a number from 001 to 240 (R175). -/
def rackField? (f : Text) : Option Rack :=
  match rangedField? 1 240 f with
  | some n => rackOfNumber? n
  | none => none

/-! ## Classes and names -/

/-- A class letter. -/
def classOfChar? : Char → Option RackClass
  | 'P' => some .plate
  | 'C' => some .cup
  | 'K' => some .cutlery
  | 'T' => some .tray
  | _ => none

/-- A class field: one of the four letters (R123). -/
def classField? : Text → Option RackClass
  | [c] => classOfChar? c
  | _ => none

/-- The set of a list of distinct class letters, or none where a character is not one or comes twice (R133). -/
def classLetters? : Text → ClassSet → Option ClassSet
  | [], a => some a
  | c :: rest, a =>
    match classOfChar? c with
    | some .plate => if a.plate then none else classLetters? rest { a with plate := true }
    | some .cup => if a.cup then none else classLetters? rest { a with cup := true }
    | some .cutlery => if a.cutlery then none else classLetters? rest { a with cutlery := true }
    | some .tray => if a.tray then none else classLetters? rest { a with tray := true }
    | none => none

/-- The classes field of SS: distinct class letters, or "-" for the empty set (R133). -/
def classSetField? (f : Text) : Option ClassSet :=
  if f = dash then some ⟨false, false, false, false⟩
  else if f = [] then none
  else classLetters? f ⟨false, false, false, false⟩

/-- The place field of MK: LOST or UNSEEN (R127). -/
def markField? (f : Text) : Option Place :=
  if f = "LOST".toList then some .lost
  else if f = "UNSEEN".toList then some .unseen
  else none

/-- The alert kind with a name (R167). -/
def alertNamed? (f : Text) : Option AlertKind := AlertKind.all.find? fun k => alertText k = f

/-- Every field judged by one reading, or none where one of them fails it. -/
def allFields? {α : Type} (read : Text → Option α) : List Text → Option (List α)
  | [] => some []
  | f :: rest =>
    match read f, allFields? read rest with
    | some a, some as => some (a :: as)
    | _, _ => none

/-! ## Parameters (R176, R177) -/

/-- The name of a parameter: a numeric one, POL or AUTOCLASS. -/
inductive ParamName where
  | num (p : Param) | pol | autoClass
  deriving DecidableEq, Repr

/-- A parameter with a value to be written, well formed (R176). -/
inductive ParamWrite where
  | num (p : Param) (value : Int) | pol (value : Vector Bool 20) | autoClass (value : RackClass)
  deriving DecidableEq, Repr

/-- The name as PS and PG write it (R177). -/
def paramNameText : ParamName → Text
  | .num p => paramName p
  | .pol => "POL".toList
  | .autoClass => "AUTOCLASS".toList

/-- The fifty-four names in the order of the table of R177: POL stands after D3E and AUTOCLASS after
AUTOENROL. -/
def allParamNames : List ParamName :=
  (Param.all.take 12).map .num ++ .pol :: ((Param.all.drop 12).take 4).map .num
    ++ .autoClass :: (Param.all.drop 16).map .num

/-- The parameter with a name (R176, R177). -/
def paramNamed? (f : Text) : Option ParamName := allParamNames.find? fun n => paramNameText n = f

/-- The parameter that a write names. -/
def ParamWrite.name : ParamWrite → ParamName
  | .num p _ => .num p
  | .pol _ => .pol
  | .autoClass _ => .autoClass

/-- The letters of a POL value: H or L each (R16). -/
def polarityLetters? : Text → Option (List Bool)
  | [] => some []
  | c :: rest =>
    match c, polarityLetters? rest with
    | 'H', some bs => some (true :: bs)
    | 'L', some bs => some (false :: bs)
    | _, _ => none

/-- A POL value: exactly twenty letters, each H or L (R16). -/
def polarityField? (f : Text) : Option (Vector Bool 20) :=
  match polarityLetters? f with
  | some bs => if bs.length = 20 then some (vectorOf 20 bs false) else none
  | none => none

/-- A field split at its first "=", or none where it has none. -/
def splitPair? : Text → Option (Text × Text)
  | [] => none
  | '=' :: rest => some ([], rest)
  | c :: rest => (splitPair? rest).map fun p => (c :: p.1, p.2)

/-- The write that a value makes for a named parameter, where it is well formed (R176). -/
def writeOf? (value : Text) : ParamName → Option ParamWrite
  | .num p => (numericField? value).map (.num p)
  | .pol => (polarityField? value).map .pol
  | .autoClass => (classField? value).map .autoClass

/-- A field NAME=value of PS, its name known and its value well formed (R176). -/
def pairField? (f : Text) : Option ParamWrite :=
  match splitPair? f with
  | none => none
  | some (name, value) =>
    match paramNamed? name with
    | none => none
    | some n => writeOf? value n

/-- The writes of a PS request: at least one, every field well formed, no name twice (R176). -/
def psFields? (fields : List Text) : Option (List ParamWrite) :=
  match allFields? pairField? fields with
  | some (w :: ws) => if ((w :: ws).map ParamWrite.name).Nodup then some (w :: ws) else none
  | some [] => none
  | none => none

end Sys2Proof.Machine
end

