-- ==== Sys2Proof/Machine/Probes.lean ====
section
/-! DEFINITION. The probe bus and the sample events (chapter 5): POLL_PERIOD_START, PROBE_ANSWER and
PROBE_WAIT_EXPIRY. -/

namespace Sys2Proof.Machine

/-! ## The credit table (R75) -/

/-- The six points (T, C) of the credit table in use, lowest first (section 5.2). -/
def creditPoints (c : Settings) : List (Nat × Nat) :=
  [(paramGet c .ct1, paramGet c .cc1), (paramGet c .ct2, paramGet c .cc2), (paramGet c .ct3, paramGet c .cc3),
   (paramGet c .ct4, paramGet c .cc4), (paramGet c .ct5, paramGet c .cc5), (paramGet c .ct6, paramGet c .cc6)]

/-- The credit of T along a broken line whose first point's temperature T has reached (R75): between two points
by truncated division, and the last point's credit from there on. -/
def creditAlong (t : Nat) : List (Nat × Nat) → Nat
  | [] => 0
  | [(_, c)] => c
  | (t0, c0) :: (t1, c1) :: rest =>
    if t < t1 then c0 + (c1 - c0) * (t - t0) / (t1 - t0) else creditAlong t ((t1, c1) :: rest)

/-- The credit c(T) of a temperature: 0 below T1 (R75). -/
def credit (c : Settings) (t : Nat) : Nat :=
  if t < paramGet c .ct1 then 0 else creditAlong t (creditPoints c)

/-- The speed demand of a valid rinse sample: VNOM times c(T) divided by c(TREF), truncated, then clamped into
VMIN to VNOM (R81). -/
def demandFor (c : Settings) (t : Nat) : Nat :=
  clampSpeed c (paramGet c .vnom * credit c t / credit c (paramGet c .tref))

/-! ## The sample events (R73, R74) -/

/-- A head's latest sample and counts after a sample event; `none` is an invalid sample (R73). -/
def headSampled (h : ProbeHead) : Option Nat → ProbeHead
  | some t => { h with latest := .temp t, consecutive := 0 }
  | none =>
    { h with
      latest := .invalid
      consecutive := saturatingAdd Config.byteLimit h.consecutive 1
      total := saturatingAdd Config.wordLimit h.total 1 }

/-- Whether a sample is a probe fault: an invalid one that brings the consecutive count from 2 to 3 (R74). -/
def isProbeFault (h : ProbeHead) (v : Option Nat) : Bool := v.isNone && h.consecutive == 2

/-- The RINSE cause after a sample event (R83). -/
def rinseCauseAfter (c : Settings) (h : ProbeHead) : Option Nat → Option HoldReason
  | some t =>
    if paramGet c .tresume ≤ t ∧ credit c t ≠ 0 then none
    else if credit c t = 0 ∨ h.cause.isSome then some .temperature
    else none
  | none => if isProbeFault h none then some .probe else h.cause

/-- The WASH cause after a sample event (R84). -/
def washCauseAfter (c : Settings) (h : ProbeHead) : Option Nat → Option HoldReason
  | some t =>
    if paramGet c .wresume ≤ t then none
    else if t < paramGet c .wfloor ∨ h.cause.isSome then some .temperature
    else none
  | none => if isProbeFault h none then some .probe else h.cause

/-- The part of a poll period that one sample stands for, k = POLL / 100 (R71). -/
def periodK (s : State) : Nat :=
  match s.rinse.cycle with
  | .notStarted => 0
  | .started period _ => period / 100

/-- The minimum rinse temperature after a valid sample of T (R77). -/
def lowerMinimum (m : Option Nat) (t : Nat) : Nat :=
  match m with
  | none => t
  | some m => min m t

/-- A record under the spray at a valid rinse sample of T (R77). -/
def rinsed (c k t : Nat) (r : TunnelRecord) : TunnelRecord :=
  { r with dose := min Config.doseLimit (r.dose + c * k), minRinse := some (lowerMinimum r.minRinse t) }

/-- The accrual of a rinse sample on a running belt: dose and minimum of the records in FINAL, or PROBE_GAP on
them for an invalid sample (R77, R78). -/
def rinseAccrual (s : State) (v : Option Nat) : State :=
  match v with
  | some t =>
    { s with tunnel := { s.tunnel with
        list := s.tunnel.list.map fun r =>
          if inFinal s r then rinsed (credit s.settings t) (periodK s) t r else r } }
  | none => flagRecords s (inFinal s) fun f => { f with probeGap := true }

/-- The wash time of a record in WASH after a hot sample (R80). -/
def washed (k : Nat) (r : TunnelRecord) : TunnelRecord :=
  { r with washTime := saturatingAdd Config.wordLimit r.washTime k }

/-- The accrual of a wash sample: a valid one at or above WFLOOR adds k to the records in WASH (R80). -/
def washAccrual (s : State) (v : Option Nat) : State :=
  match v with
  | none => s
  | some t =>
    if par s .wfloor ≤ t then
      { s with tunnel := { s.tunnel with
          list := s.tunnel.list.map fun r => if inWash s r then washed (periodK s) r else r } }
    else s

/-- Whether the latest wash sample is valid and at or above WFLOOR (R159). -/
def washHot (s : State) : Bool :=
  match s.rinse.wash.latest with
  | .temp t => decide (par s .wfloor ≤ t)
  | .none | .invalid => false

/-- The line supervisor at a rinse sample event (R159). -/
def lineAtRinseSample (s : State) (v : Option Nat) (fault : Bool) : State :=
  match s.sup.mode, v with
  | .warming, some t =>
    if par s .tready ≤ t ∧ washHot s = true ∧ lineEmpty s = true then changeMode s .parked else s
  | .parked, some t => if t < par s .tresume then changeMode s .warming else s
  | .parked, none => if fault then changeMode s .warming else s
  | _, _ => s

/-- The line supervisor at a wash sample event (R159). -/
def lineAtWashSample (s : State) (v : Option Nat) (fault : Bool) : State :=
  match s.sup.mode, v with
  | .parked, some t => if t < par s .wfloor then changeMode s .warming else s
  | .parked, none => if fault then changeMode s .warming else s
  | _, _ => s

/-- The speed demand computed at a valid rinse sample while the mode is RUN (R81). -/
def demandAtSample (s : State) (v : Option Nat) : State :=
  match v with
  | some t => if s.sup.mode = .run then setDemand s (demandFor s.settings t) else s
  | none => s

/-- The rinse head after a sample event, with the alert of a fault and what the RINSE cause's change leads to
(R73, R74, R83). -/
def rinseHeadEvent (s : State) (v : Option Nat) : State :=
  let h := s.rinse.rinse
  let t := if isProbeFault h v then raise s .rinseProbe none else s
  let head := { headSampled h v with cause := rinseCauseAfter s.settings h v }
  holdsChanged s { t with rinse := { t.rinse with rinse := head } }

/-- The wash head after a sample event (R73, R74, R84). -/
def washHeadEvent (s : State) (v : Option Nat) : State :=
  let h := s.rinse.wash
  let t := if isProbeFault h v then raise s .washProbe none else s
  let head := { headSampled h v with cause := washCauseAfter s.settings h v }
  holdsChanged s { t with rinse := { t.rinse with wash := head } }

/-- A rinse sample event (R73). The accrual judges the belt run output as it stood at the start of the event. -/
def rinseSample (s : State) (v : Option Nat) : State :=
  let t := rinseHeadEvent s v
  let u := if s.pacing.beltRun then rinseAccrual t v else t
  lineAtRinseSample (demandAtSample u v) v (isProbeFault s.rinse.rinse v)

/-- A wash sample event (R73, R80). -/
def washSample (s : State) (v : Option Nat) : State :=
  lineAtWashSample (washAccrual (washHeadEvent s v) v) v (isProbeFault s.rinse.wash v)

/-! ## The polls (R71, R72) -/

/-- The poll cycle with another head being polled (R71). -/
def setPhase (s : State) (p : PollPhase) : State :=
  match s.rinse.cycle with
  | .notStarted => s
  | .started period _ => { s with rinse := { s.rinse with cycle := .started period p } }

/-- The head being polled; quiet before the cycle has begun (R71). -/
def pollPhase (s : State) : PollPhase :=
  match s.rinse.cycle with
  | .notStarted => .quiet
  | .started _ p => p

/-- The character that names a head in the poll that the card sends it and in its answer: R or W; on a quiet bus no
poll is out (R71, R72; log entry 24). -/
def headLetter : PollPhase → Option Byte
  | .quiet => none
  | .rinse => some 0x52
  | .wash => some 0x57

/-- The end of a poll with a sample: after the rinse poll the wash head is polled at once, and after the wash
poll the bus is quiet (R71, R73). -/
def endPoll (s : State) (v : Option Nat) : State :=
  match pollPhase s with
  | .quiet => s
  | .rinse => settle (rinseSample (setPhase s .wash) v)
  | .wash => settle (washSample (setPhase s .quiet) v)

/-- The sample of an answer that echoes the head polled: its temperature when the length, the check and the
range hold, `none` when one of them fails (R72). -/
def answerSample (bytes : List Byte) : Option Nat :=
  match bytes with
  | [b1, b2, b3, b4] =>
    let t := 256 * b2.toNat + b3.toNat
    if b1 + b2 + b3 + b4 = 0 ∧ t ≤ 1200 then some t else none
  | _ => none

/-- POLL_PERIOD_START (R71): the period takes POLL as it stands, and a poll is sent to the rinse head. Before
the first load has supplied POLL there are no periods. A period that starts while a poll is still in progress, which
R71 says cannot be, ends that poll without a sample: DESIGN CHOICE, log entry 6. -/
def execPollPeriodStart (s : State) : Host.Outcome State Fault Refusal :=
  match s.rinse.cycle with
  | .notStarted => .next s
  | .started _ _ => .next { s with rinse := { s.rinse with cycle := .started (par s .poll) .rinse } }

/-- PROBE_ANSWER (R72): an answer that does not echo the head polled, or that arrives while no poll awaits one,
is discarded; one that does ends the poll with a valid or an invalid sample. -/
def execProbeAnswer (bytes : List Byte) (s : State) : Host.Outcome State Fault Refusal :=
  match headLetter (pollPhase s), bytes with
  | some letter, b :: rest => if b = letter then .next (endPoll s (answerSample (b :: rest))) else .next s
  | _, _ => .next s

/-- PROBE_WAIT_EXPIRY (R72): the poll in progress ends with an invalid sample. -/
def execProbeWaitExpiry (s : State) : Host.Outcome State Fault Refusal := .next (endPoll s none)

end Sys2Proof.Machine
end

