-- ==== Sys2Proof/Machine/Timers.lean ====
section
/-! DEFINITION. The timers kept as counts of tenths: CONGESTION_TIMER_STEP, which is the 0.1 s step, and the
expiries that are commands of their own. -/

namespace Sys2Proof.Machine

/-! ## The 0.1 s step

The step counts every timer of tenths (section 1.6), and a timer that it brings to its end does on this same event
what its rule says. The rows that name an end take the last tenth of their one timer, and act on no other
(log entry 5). -/

/-- The encoder-stall timer at a 0.1 s step (R8), short of its expiry. -/
def encoderTenth : EncoderTimer → EncoderTimer
  | .running n => .running (n + 1)
  | .idle => .idle
  | .expired => .expired

/-- The reject lamp at a 0.1 s step: OFF with the last tenth (R66). -/
def lampTenth : Lamp → Lamp
  | .on n => if n ≤ 1 then .off else .on (n - 1)
  | .off => .off

/-- The stall timer at a 0.1 s step (R102): it falls by one, and on below 0 to its floor. A count whose step from 1
to 0 TUNNEL_STALL has taken stands at 0 after the step of that tenth. -/
def stallTenth : StallTimer → StallTimer
  | .counting c => .counting (max Config.stallFloor (c - 1))
  | .reached => .counting 0
  | .idle => .idle

/-- A diverter at a 0.1 s step: OFF with the last tenth (R141). -/
def diverterTenth : Diverter → Diverter
  | .pulsing n => if n ≤ 1 then .off else .pulsing (n - 1)
  | .off => .off

/-- A tray belt at a 0.1 s step: RUNNING with the last tenth of its hold (R151). -/
def trayTenth (c : TrayChannel) : TrayChannel :=
  match c.state with
  | .held n => { c with state := if n ≤ 1 then .running else .held (n - 1) }
  | .running | .stoppedFull | .stoppedLine => c

/-- Every timer counted by one tenth whose end raises no alert, the stall timer, and the encoder-stall timer. -/
def countTenth (s : State) : State :=
  { s with
    belt := { s.belt with timer := encoderTenth s.belt.timer }
    tunnel := { s.tunnel with lamp := lampTenth s.tunnel.lamp }
    pacing := { s.pacing with stallTimer := stallTenth s.pacing.stallTimer }
    returns := { s.returns with diverters := vectorMap diverterTenth s.returns.diverters }
    tray := { s.tray with north := trayTenth s.tray.north, south := trayTenth s.tray.south } }

/-- The en-route deadlines at a 0.1 s step: they count while the return belt output is ON, and the entries whose last
tenth it is are removed and lost, the oldest first (R143). -/
def deadlinesTenth (s : State) : State :=
  if s.returns.returnBelt then
    (s.returns.enRoute.filter lastTenth).foldl loseRack
      { s with returns := { s.returns with
          enRoute := (s.returns.enRoute.filter fun e => !lastTenth e).map fun e =>
            { e with deadline := e.deadline - 1 } } }
  else s

/-- Whether the next step of the stall timer is the one from 1 to 0 (R102). -/
def stallLastTenth (s : State) : Bool := s.pacing.stallTimer == .counting 1

/-- What the step of the stall timer from 1 to 0 does besides: TUNNEL_STALL, and STALLED on every tunnel record
(R102). -/
def stallAlert (s : State) : State :=
  flagRecords (raise s .tunnelStall none) (fun _ => true) fun f => { f with stalled := true }

/-- CONGESTION_TIMER_STEP (R149, with R8, R9, R66, R102, R141, R143, R151): one step of 0.1 s. Congestion is judged
on the line as the step finds it, and an encoder stall halts the line last (log entry 5). -/
def execCongestionTimerStep (s : State) : Host.Outcome State Fault Refusal :=
  let t := deadlinesTenth (congestionStep (countTenth s))
  let u := if stallLastTenth s then stallAlert t else t
  .next (if encoderLastTenth s then settle (encoderExpiry u) else u)

/-! ## The expiries -/

/-- TUNNEL_STALL (R102): the step of the stall timer from 1 to 0. Any other timer is not at it. -/
def execTunnelStall (s : State) : Host.Outcome State Fault Refusal :=
  .next
    (if stallLastTenth s then stallAlert { s with pacing := { s.pacing with stallTimer := .reached } } else s)

/-- REJECT_LAMP_TIMEOUT (R66): the last tenth of the lamp's timer. -/
def execRejectLampTimeout (s : State) : Host.Outcome State Fault Refusal :=
  match s.tunnel.lamp with
  | .on n => .next (if n ≤ 1 then lampOff s else s)
  | .off => .next s

/-- DIVERTER_PULSE_END (R141): the last tenth of a pulse. A pulse that has been started again has more left. -/
def execDiverterPulseEnd (k : Station) (s : State) : Host.Outcome State Fault Refusal :=
  match s.returns.diverters[k] with
  | .pulsing n =>
    .next
      (if n ≤ 1 then { s with returns := { s.returns with diverters := s.returns.diverters.set k .off } } else s)
  | .off => .next s

/-- DEADLINE_EXPIRY (R143): the last tenth of the deadline of the entry at the position. -/
def execDeadlineExpiry (position : Nat) (s : State) : Host.Outcome State Fault Refusal := .next (loseEntry s position)

/-- HOLD_TIMER_EXPIRY (R151): the last tenth of a held belt's timer; in another state there is none (R152). -/
def execHoldTimerExpiry (b : TrayBelt) (s : State) : Host.Outcome State Fault Refusal := .next (holdTimerEnds s b)

end Sys2Proof.Machine
end

