-- ==== Sys2Proof/Machine/Settings.lean ====
section
/-! DEFINITION. Writing parameters (R176 and the rule of each parameter), new values taking effect, and what the
settings store loads and saves (R168 to R170). -/

namespace Sys2Proof.Machine

/-! ## Judging a write (R13, R76, R82 to R84, R176) -/

/-- A value clamped to a range, both limits included (R175). -/
def clampInto (lo hi : Nat) (v : Int) : Nat := if v < lo then lo else if (hi : Int) < v then hi else v.toNat

/-- A written value as it is stored, before the bounds that parameters set each other: clamped to the range; POLL
rounded down to a multiple of 100 (R71); the ten positions of the zone table as written (R13). -/
def storedValue (p : Param) (v : Int) : Nat :=
  if paramIsZone p = true ∧ p ≠ .xexit then v.toNat
  else
    let n := clampInto (paramRange p).1 (paramRange p).2 v
    if p = .poll then n / 100 * 100 else n

/-- One write applied to the settings. -/
def applyWrite (c : Settings) : ParamWrite → Settings
  | .num p v => paramSet c p (storedValue p v)
  | .pol v => { c with pol := v }
  | .autoClass k => { c with autoClass := k }

/-- VMIN at most VNOM, and WRESUME at least WFLOOR (R82, R84). -/
def boundPairs (c : Settings) : Settings :=
  paramSet (paramSet c .vmin (min (paramGet c .vmin) (paramGet c .vnom)))
    .wresume (max (paramGet c .wresume) (paramGet c .wfloor))

/-- The settings as they would stand after a request's writes together (R13, R76, R176). -/
def settingsAfter (c : Settings) (ws : List ParamWrite) : Settings := boundPairs (ws.foldl applyWrite c)

/-- Whether a span lies in [0, XEXIT] with start < end (R13). -/
def spanValid (c : Settings) (start finish : Param) : Bool :=
  decide (paramGet c start < paramGet c finish) && decide (paramGet c finish ≤ paramGet c .xexit)

/-- The zone table's two checks (R13). -/
def zoneTableValid (c : Settings) : Bool :=
  spanValid c .washs .washe && spanValid c .finals .finale && spanValid c .d1s .d1e && spanValid c .d2s .d2e
    && spanValid c .d3s .d3e && decide (paramGet c .washe ≤ paramGet c .finals)

/-- The credit table's ascending temperatures and credits that do not fall (R76). -/
def creditTableValid (c : Settings) : Bool :=
  decide (paramGet c .ct1 < paramGet c .ct2) && decide (paramGet c .ct2 < paramGet c .ct3)
    && decide (paramGet c .ct3 < paramGet c .ct4) && decide (paramGet c .ct4 < paramGet c .ct5)
    && decide (paramGet c .ct5 < paramGet c .ct6)
    && decide (paramGet c .cc1 ≤ paramGet c .cc2) && decide (paramGet c .cc2 ≤ paramGet c .cc3)
    && decide (paramGet c .cc3 ≤ paramGet c .cc4) && decide (paramGet c .cc4 ≤ paramGet c .cc5)
    && decide (paramGet c .cc5 ≤ paramGet c .cc6)

/-- Whether a write names a parameter that a test picks. -/
def writesAny (ws : List ParamWrite) (which : Param → Bool) : Bool :=
  ws.any fun w => match w with
    | .num p _ => which p
    | .pol _ => false
    | .autoClass _ => false

/-- Whether a write puts a zone position below 0, which no table may hold (R13: 0 ≤ start). -/
def writesNegativePosition (ws : List ParamWrite) : Bool :=
  ws.any fun w => match w with
    | .num p v => paramIsZone p && p != .xexit && decide (v < 0)
    | .pol _ => false
    | .autoClass _ => false

/-- Whether a write needs the service key (R165, R177). -/
def ParamWrite.isProtected : ParamWrite → Bool
  | .num p _ => paramProtected p
  | .pol _ => true
  | .autoClass _ => false

/-- Whether a credit of 0 makes c(TREF) or c(TRESUME) fail (R76, R82, R83). -/
def creditless (c : Settings) (p : Param) : Bool := credit c (paramGet c p) == 0

/-- The first check of a well-formed PS request that fails, as its error code; `none` when all pass (R176): the
store operation, the key, then the rules of the parameters named in the order of the table. -/
def psFailure (s : State) (ws : List ParamWrite) : Option Nat :=
  let c := settingsAfter s.settings ws
  let zone := writesAny ws paramIsZone
  let table := writesAny ws paramIsCredit
  if s.sup.storeOp ≠ .none then some 3
  else if ws.any ParamWrite.isProtected = true ∧ isActive s .sk = false then some 5
  else if zone = true ∧ lineEmpty s = false then some 4
  else if zone = true ∧ (zoneTableValid c = false ∨ writesNegativePosition ws = true) then some 2
  else if table = true ∧ lineEmpty s = false then some 4
  else if table = true ∧ creditTableValid c = false then some 2
  else if (table = true ∨ writesAny ws (· == .tref) = true) ∧ creditless c .tref = true then some 6
  else if (table = true ∨ writesAny ws (· == .tresume) = true) ∧ creditless c .tresume = true then some 6
  else none

/-! ## New values taking effect -/

/-- An input under a new polarity: one whose polarity has changed is judged afresh against its filtered state,
and any other is not disturbed (R19). -/
def requalify (old new : Vector Bool 20) (s : State) (i : Input) : State :=
  if old[i.index] = new[i.index] then s
  else
    setChannel s i
      { channel s i with
        qualifying := readsActive new[i.index] (channel s i).level != (channel s i).filtered }

/-- The forward and reverse accumulators set to 0 by a new value of EPM (R2). -/
def clearAccumulators (s : State) : State := { s with belt := { s.belt with forwardAcc := 0, reverseAcc := 0 } }

/-- The hold counts lowered to HOLDLIM (R154). -/
def limitHoldCounts (s : State) : State :=
  { s with tray := { s.tray with
      north := { s.tray.north with holdCount := min s.tray.north.holdCount (par s .holdlim) }
      south := { s.tray.south with holdCount := min s.tray.south.holdCount (par s .holdlim) } } }

/-- New settings in use, each block acting on them as its own rule states for a write or a load: the polarities
(R19), the congestion timer (R149), the hold counts (R154) and the speed demand (R82). `epm` says that EPM is
among the values written or loaded (R2). -/
def adoptSettings (s : State) (c : Settings) (epm : Bool) : State :=
  let t := Input.all.foldl (requalify s.settings.pol c.pol) { s with settings := c }
  let u := if epm then clearAccumulators t else t
  let v := limitHoldCounts (setCongestion u (min u.tray.congestionTimer (congestionLimit u)))
  setDemand v (clampSpeed c v.pacing.speedDemand)

/-! ## The settings store (R168 to R170) -/

/-- The image of the store, if its check word agrees with the sum of its bytes (R168). A half-written store's
agrees with neither image (R170). -/
def goodImage? : StoreContents → Option StoreImage
  | .whole i check => if check = checkWord i then some i else none
  | .mixed _ => none

/-- The serial field of the store, which power-up reads (R114). -/
def storedSerial (s : State) : Nat :=
  match s.store with
  | .whole i _ => i.serial
  | .mixed serial => serial

/-- The serial field while a save is being written: that of the new image or the one that stood there, which of
the two being a free value (R115, R170; log entry 2). -/
def serialWhileSaving (s : State) : Nat :=
  if Config.newSerialWritten s.freeIndex then s.outbox.nextSerial else storedSerial s

/-- The next wash serial after power-up: the stored serial, 1 where it lies outside 1 to 999999, plus 1000, less
999999 where the sum exceeds it (R114). -/
def serialAtPowerUp (stored : Nat) : Nat :=
  let base := if 1 ≤ stored ∧ stored ≤ Config.serialLimit then stored else 1
  if Config.serialLimit < base + Config.serialSkip then base + Config.serialSkip - Config.serialLimit
  else base + Config.serialSkip

/-- Loaded settings with the zone table in use kept (R14). -/
def keepZoneTable (inUse loaded : Settings) : Settings :=
  Param.all.foldl (fun c p => if paramIsZone p then paramSet c p (paramGet inUse p) else c) loaded

/-- A row as a load brings it back (R130, R132). -/
def loadedRow (r : StoredRow) : Row :=
  { cls := r.cls, place := .unseen, retired := r.retired, rewashDue := false, washCount := r.washCount,
    lastVerdict := none, lastSerial := none }

/-- Every row loaded from an image (R130, R132). -/
def loadRegistry (s : State) (i : StoreImage) : State := { s with registry := vectorMap (Option.map loadedRow) i.rows }

/-- The rack that a stop outcome or a held outcome names (R130). -/
def rackAtStop : Stage → Option Rack
  | .waiting _ o => o.rack?
  | .admitting _ _ (some o) => o.rack?
  | .admitting _ _ none | .empty | .reading => none

/-- The places of racks read before the power-up load completed: QUEUED for one named at the stop, ON_RETURN for
those that en-route entries carry (R130). -/
def placeEarlyReads (s : State) : State :=
  s.returns.enRoute.foldl (fun t e => setPlaceOf t e.rack .onReturn) (setPlaceOf s (rackAtStop s.stage) .queued)

/-- The alert mask replaced, and the ALERT output with it (R167). -/
def setMask (s : State) (m : Vector Bool 20) : State :=
  refreshAlertOutput { s with sup := { s.sup with mask := m } }

/-- The mask, the station table and the registry of an image, which power-up and LD take and XR does not
(R168). -/
def loadTables (s : State) (i : StoreImage) : State :=
  let t := setMask s i.mask
  loadRegistry { t with returns := { t.returns with stations := i.stations } } i

/-- SETTINGS_DEFAULT, for a load that finds the image bad (R168). -/
def raiseIfBad (s : State) (image : Option StoreImage) : State :=
  match image with
  | some _ => s
  | none => raise s .settingsDefault none

/-- The values of a power-up or XR load handed over; a bad image gives the factory values (R168). The speed
demand becomes VNOM as loaded (R88). -/
def handOver (s : State) (kind : LoadKind) (image : Option StoreImage) : State :=
  let i := image.getD factoryImage
  let t :=
    match kind with
    | .powerUp => placeEarlyReads (loadTables (adoptSettings s i.settings true) i)
    | .lineReset => adoptSettings s (keepZoneTable s.settings i.settings) true
  setDemand (raiseIfBad t image) (par t .vnom)

/-- The values of an LD load handed over; a bad image gives the factory values (R168, R169). -/
def handOverAtRest (s : State) (image : Option StoreImage) : State :=
  let i := image.getD factoryImage
  raiseIfBad (loadTables (adoptSettings s i.settings true) i) image

/-- What the store keeps of a row (R168). -/
def storedRow (w : Row) : StoredRow := { cls := w.cls, retired := w.retired, washCount := w.washCount }

/-- The image of the settings as they stand (R168, R170). -/
def currentImage (s : State) : StoreImage :=
  { settings := s.settings, mask := s.sup.mask, stations := s.returns.stations,
    rows := vectorMap (Option.map storedRow) s.registry, serial := s.outbox.nextSerial }

/-- The store as a save that fails nowhere leaves it: the image and its check word (R168, R170). -/
def writtenStore (i : StoreImage) : StoreContents := .whole i (checkWord i)

end Sys2Proof.Machine
end

