-- ==== Sys2Proof/Machine/Link.lean ====
section
/-! DEFINITION. The supervisor link (chapter 12): receiving and judging a line (R172, R173), replies (R174), and the
commands OVERLENGTH_LINE, LINE_DISCARDED, UNKNOWN_COMMAND and REPLY_END. -/

namespace Sys2Proof.Machine

/-! ## Judging a line (R173) -/

/-- The value of an upper-case hexadecimal digit. -/
def hexValue? (c : Char) : Option Nat :=
  if 48 ≤ c.toNat ∧ c.toNat ≤ 57 then some (c.toNat - 48)
  else if 65 ≤ c.toNat ∧ c.toNat ≤ 70 then some (c.toNat - 55)
  else none

/-- Whether what stands between the command and the "*" is nothing, or one or more fields each preceded by a
single space (R173). `afterSpace` says that a field's first character is due. -/
def fieldsWellSpaced : Text → Bool → Bool
  | [], afterSpace => !afterSpace
  | ' ' :: rest, afterSpace => !afterSpace && fieldsWellSpaced rest true
  | _ :: rest, _ => fieldsWellSpaced rest false

/-- Whether the text after the command is nothing or begins with a space and is well spaced (R173). -/
def fieldsFormed : Text → Bool
  | [] => true
  | ' ' :: rest => fieldsWellSpaced rest true
  | _ :: _ => false

/-- The two numbers of a line in the form of R173: its address and its check, with the characters the check
covers; none where the line is not in that form. -/
def lineForm? : Text → Option (Nat × Nat × Text)
  | '@' :: a1 :: a2 :: ' ' :: c1 :: c2 :: rest =>
    let fields := rest.take (rest.length - 3)
    match digitValue? a1, digitValue? a2, rest.drop (rest.length - 3) with
    | some d1, some d2, ['*', h1, h2] =>
      match hexValue? h1, hexValue? h2 with
      | some x1, some x2 =>
        if fieldsFormed fields then
          some (10 * d1 + d2, 16 * x1 + x2, a1 :: a2 :: ' ' :: c1 :: c2 :: fields)
        else none
      | _, _ => none
    | _, _, _ => none
  | _ => none

/-- What becomes of a complete line (R173). -/
inductive LineFate where
  | badCheck | otherAddress | request
  deriving DecidableEq, Repr

/-- The judgement of a complete line, in the order of R173: its form, its address, its check. -/
def judgeLine (address : Nat) (line : Text) : LineFate :=
  match lineForm? line with
  | none => .badCheck
  | some (a, check, covered) =>
    if a ≠ address then .otherAddress
    else if checkSum covered = check then .request
    else .badCheck

/-- The count of a discarded line increased; a line that passes is a request and is not discarded (R173). -/
def countLine (l : Link) (line : Text) : Link :=
  match judgeLine l.address line with
  | .badCheck => { l with badCheck := saturatingAdd Config.wordLimit l.badCheck 1 }
  | .otherAddress => { l with otherAddress := saturatingAdd Config.wordLimit l.otherAddress 1 }
  | .request => l

/-! ## Receiving (R172) -/

/-- The end of a line at its CR: judged if the buffer was collecting, and the buffer idle (R172). -/
def receiveReturn (l : Link) : Link :=
  match l.buffer with
  | .idle => l
  | .collecting cs => { countLine l cs with buffer := .idle }

/-- One received character (R172): a CR ends the line; "@" begins the collection; with the buffer idle any other
is discarded; a line that reaches 97 characters is overlength. -/
def receiveCharacter (l : Link) (c : Char) : Link :=
  if c = '\r' then receiveReturn l
  else if c = '@' then { l with buffer := .collecting ['@'] }
  else
    match l.buffer with
    | .idle => l
    | .collecting cs =>
      if Config.lineLimit ≤ cs.length then
        { l with buffer := .idle, overlength := saturatingAdd Config.wordLimit l.overlength 1 }
      else { l with buffer := .collecting (cs ++ [c]) }

/-- A run of characters received, one by one. -/
def receiveText (l : Link) (t : Text) : Link := t.foldl receiveCharacter l

/-- Whether the receiver is on: it is off while the transmitter is sending a reply (R172). -/
def receiverOn (s : State) : Bool := s.link.transmitter == .quiet

/-- OVERLENGTH_LINE (R172): the characters as they come; those that reach the pair while a reply is being sent
are lost. -/
def execOverlengthLine (characters : Text) (s : State) : Host.Outcome State Fault Refusal :=
  .next (if receiverOn s then { s with link := receiveText s.link characters } else s)

/-- LINE_DISCARDED (R172, R173): a line and its CR. -/
def execLineDiscarded (line : Text) (s : State) : Host.Outcome State Fault Refusal :=
  .next (if receiverOn s then { s with link := receiveText s.link (line ++ ['\r']) } else s)

/-! ## Replies (R174, R175) -/

/-- What a request is answered: accepted, with the content its command returns (empty for none), or refused with
an error code (R174, R175). -/
inductive Reply where
  | ok (content : Text) | error (code : Nat)
  deriving DecidableEq, Repr

/-- The words of a reply after the echoed command (R174). -/
def replyWords : Reply → Text
  | .ok [] => "OK".toList
  | .ok (c :: cs) => "OK ".toList ++ c :: cs
  | .error n => "ER ".toList ++ natText n

/-- A whole reply, its CR not shown: "$aa CC ...*hh", the check over the characters after "$" up to "*" (R174). -/
def replyLine (address : Nat) (command : Text) (r : Reply) : Text :=
  let covered := addressText address ++ ' ' :: command ++ ' ' :: replyWords r
  '$' :: covered ++ '*' :: hexText (checkSum covered)

/-- The transmitter begins sending a reply (R174). -/
def sendReply (s : State) (command : Text) (r : Reply) : State :=
  { s with link := { s.link with transmitter := .sending (replyLine s.link.address command r) } }

/-- A request taken on the event of its CR: its buffer idle, its effect and its reply on the one event (R172,
R174). A request that reaches the pair while a reply is being sent is lost (R172). -/
def takeRequest (s : State) (command : Text) (effect : State → State × Reply) : State :=
  if receiverOn s then
    let r := effect { s with link := { s.link with buffer := .idle } }
    sendReply r.1 command r.2
  else s

/-- A command that carries no field: a surplus field is refused with ER 2 (R175). -/
def withoutFields (fields : List Text) (effect : State → State × Reply) (s : State) : State × Reply :=
  match fields with
  | [] => effect s
  | _ :: _ => (s, .error 2)

/-- UNKNOWN_COMMAND (R175): a request whose command is not one of the table's is answered ER 1. A code that the
table has is a request of its own row, and nothing changes here (log entry 6). -/
def execUnknownCommand (code : Text) (_fields : List Text) (s : State) : Host.Outcome State Fault Refusal :=
  .next (if Config.commandCodes.contains code then s else takeRequest s code fun t => (t, .error 1))

/-- REPLY_END (R172): the transmitter goes quiet and the receiver is on again. -/
def execReplyEnd (s : State) : Host.Outcome State Fault Refusal :=
  .next { s with link := { s.link with transmitter := .quiet } }

end Sys2Proof.Machine
end

