-- ==== Sys2Proof/Machine/Reports.lean ====
section
/-! DEFINITION. The commands that report and change nothing else (section 12.4): ST, AL, TL, RR, RS, SQ, PG and DG. -/

namespace Sys2Proof.Machine

/-! ## ST (R179) -/

/-- The filtered input string: 1 for active (R21). -/
def filteredText (s : State) : Text := Input.all.map fun i => bitChar (isActive s i)

/-- The raw input string: 1 for high (R21). -/
def rawText (s : State) : Text := Input.all.map fun i => bitChar (channel s i).level

/-- A diverter output's character: 1 while it is ON. -/
def diverterChar : Diverter → Char
  | .off => '0'
  | .pulsing _ => '1'

/-- The lamp's character: 1 while it is ON. -/
def lampChar : Lamp → Char
  | .off => '0'
  | .on _ => '1'

/-- The output string: belt run, valve, entry stop, lamp, diverters 1 to 4, tray belts N and S, return belt
(R179 field 9). -/
def outputsText (s : State) : Text :=
  [bitChar s.pacing.beltRun, bitChar s.pacing.valveOpen, bitChar (entryStopOpen s), lampChar s.tunnel.lamp]
    ++ s.returns.diverters.toList.map diverterChar
    ++ [bitChar (contactorOn s.tray.north), bitChar (contactorOn s.tray.south), bitChar s.returns.returnBelt]

/-- The three readers' characters (R179 field 10). -/
def readersText (s : State) : Text :=
  [attemptChar s.readers.entry.attempt, attemptChar s.readers.exit.attempt, attemptChar s.readers.ret.attempt]

/-- Fields 11 to 17: the approach (R45, R179). -/
def approachFields (g : Stage) : List Text :=
  match g with
  | .empty | .reading => [stageText g, dash, dash, dash, dash, dash, dash]
  | .waiting r o => [stageText g, reasonText r, outcomeText o, dash, dash, dash, dash]
  | .admitting p lapse held =>
    [stageText g, dash, dash, flagLetter 'H' held.isSome, optText rackText p.rack, flagLetter 'W' p.rewash,
      natText lapse]

/-- Fields 18 to 21: the tunnel (R69, R179). -/
def tunnelFields (s : State) : List Text :=
  [natText s.tunnel.list.length, [bitChar s.tunnel.slot.isSome], optText rackText (s.tunnel.slot.bind ExitRecord.rack),
    optText (fun r : TunnelRecord => natText (travel s r.entry)) s.tunnel.list.head?]

/-- The hold set as five characters (R179 field 26). -/
def holdText (s : State) : Text :=
  [if s.rinse.rinse.cause.isSome then 'R' else '-', if s.rinse.wash.cause.isSome then 'W' else '-',
    if s.pacing.exitCause then 'E' else '-', if s.pacing.doorCause then 'D' else '-',
    if s.pacing.pauseCause then 'P' else '-']

/-- The three fields of a tray belt: state, hold count, hold time left or "-" (R155, R179). -/
def trayFields (c : TrayChannel) : List Text :=
  [beltStateText c.state, natText c.holdCount,
    match c.state with
    | .held n => natText n
    | .running | .stoppedFull | .stoppedLine => dash]

/-- The 42 fields of ST in their order (R179). -/
def statusFields (s : State) : List Text :=
  [modeText s.sup.mode, flagLetter 'D' s.sup.draining, natText s.sup.runOn, haltCauseText s.sup.mode,
    storeOpText s.sup.storeOp, saveResultText s.sup.lastSave, odometerText s.belt.odometer,
    filteredText s, outputsText s, readersText s]
  ++ approachFields s.stage ++ tunnelFields s
  ++ [sampleText s.rinse.rinse.latest, sampleText s.rinse.wash.latest, causeText s.rinse.rinse.cause,
    causeText s.rinse.wash.cause,
    holdText s, natText s.pacing.speedDemand, natText s.pacing.setPoint, stallText s.pacing.stallTimer,
    natText s.pacing.longestOverrun,
    natText s.outbox.queue.length, natText s.outbox.nextSerial, natText (reservation s),
    natText s.returns.enRoute.length]
  ++ trayFields s.tray.north ++ trayFields s.tray.south
  ++ [natText s.tray.congestionTimer, flagLetter 'C' s.tray.congested]

/-- ST (R179). -/
def execSt (fields : List Text) (s : State) : Host.Outcome State Fault Refusal :=
  .next (takeRequest s "ST".toList (withoutFields fields fun t => (t, .ok (spaced (statusFields t)))))

/-! ## AL (R167, R181) -/

/-- The entry of a latched kind: name, count, first odometer, last rack, and ENTRY_FORCED's mark (R181). -/
def alertEntry (k : AlertKind) (e : Latched) : Text :=
  spaced ([alertText k, natText e.count, odometerText e.firstOdometer, optText rackText e.lastRack]
    ++ if k = .entryForced then [flagLetter 'U' e.untracked] else [])

/-- The mask as twenty characters in the order of the kinds (R181). -/
def maskText (m : Vector Bool 20) : Text := m.toList.map bitChar

/-- The content of AL: the latched kinds in the order of section 11.6, then the mask (R181). -/
def alertContent (s : State) : Text :=
  joinWith ';' (AlertKind.all.filterMap (fun k => (alert s k).map (alertEntry k)) ++ [maskText s.sup.mask])

/-- AL (R167, R181). -/
def execAl (fields : List Text) (s : State) : Host.Outcome State Fault Refusal :=
  .next (takeRequest s "AL".toList (withoutFields fields fun t => (t, .ok (alertContent t))))

/-! ## TL (R180) -/

/-- The exposures and flags that end a record's item: dose, wash time, minimum rinse temperature, flags. -/
def exposureFields (dose washTime : Nat) (minRinse : Option Nat) (f : Flags) : List Text :=
  [natText dose, natText washTime, optText natText minRinse, flagsText f]

/-- A tunnel record as TL shows it (R180). -/
def tunnelItem (s : State) (r : TunnelRecord) : Text :=
  spaced ([optText rackText r.rack, optText classText r.cls, natText (travel s r.entry)]
    ++ exposureFields r.dose r.washTime r.minRinse r.flags)

/-- The exit check record as TL shows it, its exit odometer in place of p (R180). -/
def exitItem (k : ExitRecord) : Text :=
  spaced ([optText rackText k.rack, optText classText k.cls, odometerText k.exit]
    ++ exposureFields k.dose k.washTime k.minRinse k.flags)

/-- The pending admission as TL shows it: rack, class, rewash, lapse count; "-" when there is none (R180). -/
def pendingItem : Stage → Text
  | .admitting p lapse _ =>
    spaced [optText rackText p.rack, optText classText p.cls, flagLetter 'W' p.rewash, natText lapse]
  | .empty | .reading | .waiting _ _ => dash

/-- The content of TL from a position, 1 being the head (R180). -/
def tunnelContent (s : State) (first : Nat) : Text :=
  joinWith ';'
    ([natText s.tunnel.list.length, optText exitItem s.tunnel.slot]
      ++ ((s.tunnel.list.drop (first - 1)).take Config.replyRecords).map (tunnelItem s)
      ++ [pendingItem s.stage])

/-- The optional field of TL: a position from 1 to 16, default 1 (R180). -/
def positionField? : List Text → Option Nat
  | [] => some 1
  | [f] => rangedField? 1 16 f
  | _ :: _ :: _ => none

/-- TL (R180). -/
def execTl (fields : List Text) (s : State) : Host.Outcome State Fault Refusal :=
  .next (takeRequest s "TL".toList fun t =>
    match positionField? fields with
    | some first => (t, .ok (tunnelContent t first))
    | none => (t, .error 2))

/-! ## RR and RS (R128, R129) -/

/-- The six fields of RR with the letters that select them, in the order they are reported (R128); the verdict as a
letter (R178, log entry 29). -/
def rowFields (w : Row) : List (Char × Text) :=
  [('C', classText w.cls), ('P', placeText w.place), ('W', natText w.washCount),
    ('V', optText verdictLetter w.lastVerdict), ('S', optText natText w.lastSerial),
    ('F', [if w.retired then 'R' else '-', if w.rewashDue then 'W' else '-'])]

/-- Whether a selection holds no character but the six letters (R128). -/
def selectionValid (letters : Text) : Bool := letters.all fun c => ['C', 'P', 'W', 'V', 'S', 'F'].contains c

/-- The reported fields of a row for a selection (R128). -/
def rowContent (w : Row) (letters : Text) : Text :=
  spaced (((rowFields w).filter fun f => letters.contains f.1).map Prod.snd)

/-- The fields of RR: a rack, and a selection that is every letter where the request gives none (R128). -/
def rowRequest? : List Text → Option (Rack × Text)
  | [f] => (rackField? f).map fun n => (n, "CPWVSF".toList)
  | [f, letters] => if selectionValid letters then (rackField? f).map fun n => (n, letters) else none
  | _ => none

/-- RR (R128). -/
def execRr (fields : List Text) (s : State) : Host.Outcome State Fault Refusal :=
  .next (takeRequest s "RR".toList fun t =>
    match rowRequest? fields with
    | none => (t, .error 2)
    | some (n, letters) =>
      match row t n with
      | none => (t, .error 7)
      | some w => (t, .ok (rowContent w letters)))

/-- The characters of a run of rows: from a first rack, as many as asked for, cut at rack 240; a count of 0 is
the whole rest (R129). -/
def placesContent (s : State) (first : Rack) (count : Nat) : Text :=
  let rest := (s.registry.toList.drop first.val).map rowChar
  if count = 0 then rest else rest.take count

/-- RS (R129). -/
def execRs (fields : List Text) (s : State) : Host.Outcome State Fault Refusal :=
  .next (takeRequest s "RS".toList fun t =>
    match fields with
    | [f, c] =>
      match rackField? f, rangedField? 0 999999 c with
      | some n, some count => (t, .ok (placesContent t n count))
      | _, _ => (t, .error 2)
    | _ => (t, .error 2))

/-! ## SQ (R135, R181) -/

/-- A station as SQ shows it: open, classes, capacity, occupancy (R181). -/
def stationItem (s : State) (k : Station) : Text :=
  let e := s.returns.stations[k]
  spaced [[bitChar e.isOpen], classSetText e.accepted, natText e.capacity, natText (occupancy s k)]

/-- The four pointers in the order P, C, K, T (R135), as one item with spaces between them: DESIGN CHOICE, log entry
30. -/
def pointersItem (p : Pointers) : Text :=
  spaced [stationText p.plate, stationText p.cup, stationText p.cutlery, stationText p.tray]

/-- An en-route entry as SQ shows it: rack, target, last-eye, tenths left (R181). -/
def enRouteItem (e : EnRoute) : Text :=
  spaced [optText rackText e.rack, targetText e.target, natText e.lastEye, natText e.deadline]

/-- The content of SQ (R135, R181). -/
def stationsContent (s : State) : Text :=
  joinWith ';' ([stationItem s 0, stationItem s 1, stationItem s 2, stationItem s 3, pointersItem s.returns.pointers]
    ++ s.returns.enRoute.map enRouteItem)

/-- SQ (R135, R181). -/
def execSq (fields : List Text) (s : State) : Host.Outcome State Fault Refusal :=
  .next (takeRequest s "SQ".toList (withoutFields fields fun t => (t, .ok (stationsContent t))))

/-! ## PG (R177) -/

/-- The value of a parameter as it is written in a reply. -/
def paramValueText (c : Settings) : ParamName → Text
  | .num p => natText (paramGet c p)
  | .pol => polarityText c.pol
  | .autoClass => classText c.autoClass

/-- A NAME=value pair (R176, R177). -/
def pairText (c : Settings) (n : ParamName) : Text := paramNameText n ++ '=' :: paramValueText c n

/-- The parameters that PG reports: those named, in the order named, or every one (R177). -/
def reportedNames? : List Text → Option (List ParamName)
  | [] => some allParamNames
  | f :: rest => allFields? paramNamed? (f :: rest)

/-- PG (R177). -/
def execPg (fields : List Text) (s : State) : Host.Outcome State Fault Refusal :=
  .next (takeRequest s "PG".toList fun t =>
    match reportedNames? fields with
    | some names => (t, .ok (spaced (names.map (pairText t.settings))))
    | none => (t, .error 2))

/-! ## DG (R181) -/

/-- The fields of DG in their order (R181): the test text and the revision letter, the link counts, the reader
failure counts, the input strings, the reverse count, the probe counts and the leak counts. -/
def diagnosticFields (s : State) : List Text :=
  ["LC240 0123456789 ABCDEF".toList, [Config.revision],
    natText s.link.badCheck, natText s.link.overlength, natText s.link.otherAddress,
    natText s.readers.entry.failures, natText s.readers.exit.failures, natText s.readers.ret.failures,
    filteredText s, rawText s, natText s.belt.reverseCount,
    natText s.rinse.rinse.consecutive, natText s.rinse.rinse.total,
    natText s.rinse.wash.consecutive, natText s.rinse.wash.total,
    natText s.tray.north.leakCount, natText s.tray.south.leakCount]

/-- DG (R181). -/
def execDg (fields : List Text) (s : State) : Host.Outcome State Fault Refusal :=
  .next (takeRequest s "DG".toList (withoutFields fields fun t => (t, .ok (spaced (diagnosticFields t)))))

end Sys2Proof.Machine
end

