-- ==== Sys2Proof/Machine/Commands.lean ====
section
/-! DEFINITION. The commands that act (section 12.2): alerts, wash records, the registry, the station table,
parameters and the line. -/

namespace Sys2Proof.Machine

/-- A reply with no content (R174). -/
def okay : Reply := .ok []

/-- Whether a store operation is in progress (R123, R167, R170, R176). -/
def storeBusy (s : State) : Bool := s.sup.storeOp != .none

/-! ## AC and AM (R167) -/

/-- AC (R167): the named kinds cleared, or every kind where none is named. -/
def execAc (fields : List Text) (s : State) : Host.Outcome State Fault Refusal :=
  .next (takeRequest s "AC".toList fun t =>
    match fields with
    | [] => (clearAlerts t AlertKind.all, okay)
    | f :: rest =>
      match allFields? alertNamed? (f :: rest) with
      | some kinds => (clearAlerts t kinds, okay)
      | none => (t, .error 2))

/-- The mask that holds exactly the given kinds (R167). -/
def maskOf (kinds : List AlertKind) : Vector Bool 20 := vectorOf 20 (AlertKind.all.map fun k => kinds.contains k) false

/-- The fields of AM: "-" alone, or one or more kind names (R167). -/
def maskFields? (fields : List Text) : Option (List AlertKind) :=
  if fields = [dash] then some []
  else if fields = [] then none
  else allFields? alertNamed? fields

/-- AM (R167). -/
def execAm (fields : List Text) (s : State) : Host.Outcome State Fault Refusal :=
  .next (takeRequest s "AM".toList fun t =>
    match maskFields? fields with
    | none => (t, .error 2)
    | some kinds => if storeBusy t then (t, .error 3) else (setMask t (maskOf kinds), okay))

/-! ## TK (R111, R112) -/

/-- The exit travel of a wash record, worked out for the reply; absent unless both odometers are present (R112). -/
def exitTravel? (w : WashRecord) : Option Nat :=
  match w.entry, w.exit with
  | some e, some x => some (x - e).toNat
  | _, _ => none

/-- A wash record as TK reports it (R112, R180). -/
def washItem (w : WashRecord) : Text :=
  spaced [natText w.serial, optText rackText w.rack, optText rackText w.readNumber, optText classText w.cls,
    optText odometerText w.entry, optText odometerText w.exit, optText natText (exitTravel? w), natText w.dose,
    natText w.washTime, optText natText w.minRinse, verdictLetter w.verdict, flagsText w.flags]

/-- The oldest records removed from the outbox (R111). -/
def dropRecords (s : State) (n : Nat) : State := { s with outbox := { s.outbox with queue := s.outbox.queue.drop n } }

/-- The field of TK: a number, clamped to 1 to 8 (R111). -/
def takeField? : List Text → Option Nat
  | [f] => (numericField? f).map (clampInto 1 Config.replyRecords)
  | _ => none

/-- TK (R111): up to n of the oldest records removed, and reported oldest first. -/
def execTk (fields : List Text) (s : State) : Host.Outcome State Fault Refusal :=
  .next (takeRequest s "TK".toList fun t =>
    match takeField? fields with
    | none => (t, .error 2)
    | some n => (settle (dropRecords t n), .ok (joinWith ';' ((t.outbox.queue.take n).map washItem))))

/-! ## EN, DR, RT and MK (R123 to R127) -/

/-- Whether a place is held by a collection: ADMITTING, IN_TUNNEL, AT_EXIT or ON_RETURN (R119, R125, R126). -/
def heldPlace : Place → Bool
  | .admitting | .inTunnel | .atExit | .onReturn => true
  | .unseen | .queued | .atUnload | .atStation _ | .atReturnEnd | .lost => false

/-- EN on a vacant row: ON_RETURN while an en-route entry carries the number, and UNSEEN otherwise (R124). -/
def enrol (s : State) (n : Rack) (c : RackClass) : State :=
  setRow s n (some (newRow c (if carriedEnRoute s n then .onReturn else .unseen)))

/-- EN (R123, R124). -/
def execEn (fields : List Text) (s : State) : Host.Outcome State Fault Refusal :=
  .next (takeRequest s "EN".toList fun t =>
    match fields with
    | [f, c] =>
      match rackField? f, classField? c with
      | some n, some k =>
        if storeBusy t then (t, .error 3)
        else if (row t n).isSome then (t, .error 6)
        else (settle (enrol t n k), okay)
      | _, _ => (t, .error 2)
    | _ => (t, .error 2))

/-- The one rack field of DR and RT (R123). -/
def oneRack? : List Text → Option Rack
  | [f] => rackField? f
  | _ => none

/-- DR (R123, R125). -/
def execDr (fields : List Text) (s : State) : Host.Outcome State Fault Refusal :=
  .next (takeRequest s "DR".toList fun t =>
    match oneRack? fields with
    | none => (t, .error 2)
    | some n =>
      if storeBusy t then (t, .error 3)
      else
        match row t n with
        | none => (t, .error 7)
        | some w => if heldPlace w.place then (t, .error 6) else (settle (setRow t n none), okay))

/-- RT (R123, R126). -/
def execRt (fields : List Text) (s : State) : Host.Outcome State Fault Refusal :=
  .next (takeRequest s "RT".toList fun t =>
    match oneRack? fields with
    | none => (t, .error 2)
    | some n =>
      if storeBusy t then (t, .error 3)
      else
        match row t n with
        | none => (t, .error 7)
        | some w =>
          if heldPlace w.place then (t, .error 6)
          else (settle (setRow t n (some { w with retired := true })), okay))

/-- Whether MK may correct a place: AT_STATION, AT_UNLOAD, AT_RETURN_END, LOST or UNSEEN (R127). -/
def markable : Place → Bool
  | .atStation _ | .atUnload | .atReturnEnd | .lost | .unseen => true
  | .queued | .admitting | .inTunnel | .atExit | .onReturn => false

/-- MK (R127). -/
def execMk (fields : List Text) (s : State) : Host.Outcome State Fault Refusal :=
  .next (takeRequest s "MK".toList fun t =>
    match fields with
    | [f, p] =>
      match rackField? f, markField? p with
      | some n, some place =>
        match row t n with
        | none => (t, .error 7)
        | some w => if markable w.place then (setPlace t n place, okay) else (t, .error 6)
      | _, _ => (t, .error 2)
    | _ => (t, .error 2))

/-! ## SS (R133) -/

/-- The fields of SS: a station and its new entry (R133). -/
def stationFields? : List Text → Option (Station × StationEntry)
  | [k, o, a, c] =>
    match rangedField? 1 4 k, rangedField? 0 1 o, classSetField? a, rangedField? 1 6 c with
    | some k, some o, some a, some c =>
      some (Fin.ofNat 4 (k - 1), { isOpen := o == 1, accepted := a, capacity := c })
    | _, _, _, _ => none
  | _ => none

/-- One entry of the station table written (R133). -/
def setStation (s : State) (k : Station) (e : StationEntry) : State :=
  { s with returns := { s.returns with stations := s.returns.stations.set k e } }

/-- SS (R133). -/
def execSs (fields : List Text) (s : State) : Host.Outcome State Fault Refusal :=
  .next (takeRequest s "SS".toList fun t =>
    match stationFields? fields with
    | none => (t, .error 2)
    | some (k, e) =>
      if storeBusy t then (t, .error 3)
      else if e.capacity < occupancy t k then (t, .error 6)
      else (setStation t k e, okay))

/-! ## PS (R176) -/

/-- Whether a PS request names EPM (R2). -/
def writesEpm (ws : List ParamWrite) : Bool := writesAny ws fun p => p == .epm

/-- PS (R176): every value stored on the one event, and answered with the pairs as stored. -/
def execPs (fields : List Text) (s : State) : Host.Outcome State Fault Refusal :=
  .next (takeRequest s "PS".toList fun t =>
    match psFields? fields with
    | none => (t, .error 2)
    | some ws =>
      match psFailure t ws with
      | some code => (t, .error code)
      | none =>
        let c := settingsAfter t.settings ws
        (settle (adoptSettings t c (writesEpm ws)), .ok (spaced (ws.map fun w => pairText c w.name))))

/-! ## GO, SP, CR, HB and HR (R93, R160, R162, R164) -/

/-- The effect of GO by the mode (R160). -/
def goEffect (s : State) : State × Reply :=
  match s.sup.mode with
  | .parked => (settle (changeMode s .run), okay)
  | .run => (settle { s with sup := { s.sup with draining := false, runOn := 0 } }, okay)
  | .loading | .warming | .halt _ => (s, .error 4)

/-- GO (R160). -/
def execGo (fields : List Text) (s : State) : Host.Outcome State Fault Refusal :=
  .next (takeRequest s "GO".toList (withoutFields fields goEffect))

/-- The effect of SP by the mode (R162). -/
def spEffect (s : State) : State × Reply :=
  match s.sup.mode with
  | .run =>
    if lineEmpty s then (settle (changeMode s .parked), okay)
    else (settle { s with sup := { s.sup with draining := true } }, okay)
  | .parked | .warming => (s, okay)
  | .loading | .halt _ => (s, .error 4)

/-- SP (R162). -/
def execSp (fields : List Text) (s : State) : Host.Outcome State Fault Refusal :=
  .next (takeRequest s "SP".toList (withoutFields fields spEffect))

/-- Whether a load is in progress (R164). -/
def storeLoading : StoreOp → Bool
  | .loading _ => true
  | .none => false
  | .saving _ => false

/-- The effect of CR (R164): in HALT the draining flag cleared and the mode RUN or WARMING as the line holds
anything or nothing; in any other mode nothing. -/
def crEffect (s : State) : State × Reply :=
  if storeLoading s.sup.storeOp then (s, .error 3)
  else if isActive s .es then (s, .error 4)
  else if s.sup.mode.isHalt then
    (settle (changeMode { s with sup := { s.sup with draining := false } }
      (if lineEmpty s then .warming else .run)), okay)
  else (s, okay)

/-- CR (R164). -/
def execCr (fields : List Text) (s : State) : Host.Outcome State Fault Refusal :=
  .next (takeRequest s "CR".toList (withoutFields fields crEffect))

/-- PAUSE set or cleared, with what the hold set's change leads to (R90, R93, R94). -/
def setPause (s : State) (b : Bool) : State :=
  holdsChanged s { s with pacing := { s.pacing with pauseCause := b } }

/-- HB (R93). -/
def execHb (fields : List Text) (s : State) : Host.Outcome State Fault Refusal :=
  .next (takeRequest s "HB".toList (withoutFields fields fun t => (setPause t true, okay)))

/-- HR (R93). -/
def execHr (fields : List Text) (s : State) : Host.Outcome State Fault Refusal :=
  .next (takeRequest s "HR".toList (withoutFields fields fun t => (settle (setPause t false), okay)))

end Sys2Proof.Machine
end

