-- ==== Sys2Proof/Machine/Starts.lean ====
section
/-! DEFINITION. The starts of the card and its settings store: POWER_UP, LOAD_COMPLETION, SAVE_COMPLETION, LD, SV and
XR. -/

namespace Sys2Proof.Machine

/-! ## Power-up -/

/-- The inputs as power-up finds their terminals, read through the factory polarity (R18). -/
def inputsAtPowerUp (levels : Vector Bool 20) : Vector InputChannel 20 :=
  vectorOf 20
    (Input.all.map fun i => inputAtPowerUp factorySettings.pol[i.index] levels[i.index])
    (inputAtPowerUp true false)

/-- POWER_UP (R158): every block takes its power-up state, which is `State.reset`'s; the store is what it was,
and the next wash serial comes from its serial field (R114). The rate and the address are read (R172). -/
def execPowerUp (rate : LinkRate) (address : Nat) (levels : Vector Bool 20) (s : State) :
    Host.Outcome State Fault Refusal :=
  .next
    { State.reset with
      inputs := inputsAtPowerUp levels
      outbox := { queue := [], nextSerial := serialAtPowerUp (storedSerial s) }
      link := { State.reset.link with rate := rate, address := address }
      store := s.store
      freeIndex := s.freeIndex
      pending := s.pending }

/-! ## The settings store -/

/-- The poll cycle begins when the first load has supplied POLL, and runs on through later ones (R71, R88). -/
def beginPolling (s : State) : State :=
  match s.rinse.cycle with
  | .notStarted => { s with rinse := { s.rinse with cycle := .started (par s .poll) .quiet } }
  | .started _ _ => s

/-- The store operation ended (R158, R170). -/
def endStoreOp (s : State) : State := { s with sup := { s.sup with storeOp := .none } }

/-- The line mode at the load completion (R158): LOADING becomes WARMING, or HALT with cause ESTOP while the
ESTOP loop is active; a HALT stays. -/
def modeAtLoadCompletion (s : State) : State :=
  if s.sup.mode = .loading then
    if isActive s .es then requestHalt s .estop else changeMode s .warming
  else s

/-- The load completion with the image found good, or `none` for a bad one (R158, R168). -/
def completeLoad (s : State) (kind : LoadKind) (image : Option StoreImage) : State :=
  settle (modeAtLoadCompletion (endStoreOp (beginPolling (handOver s kind image))))

/-- LOAD_COMPLETION (R158, R168). With no load in progress there is none to complete. -/
def execLoadCompletion (s : State) : Host.Outcome State Fault Refusal :=
  match s.sup.storeOp with
  | .loading kind => .next (completeLoad s kind (goodImage? s.store))
  | .none => .next s
  | .saving _ => .next s

/-- The save completion with the store read back as given (R170). -/
def completeSave (s : State) (image : StoreImage) (readBack : StoreContents) : State :=
  let t := { s with store := readBack, sup := { s.sup with storeOp := .none } }
  if readBack = writtenStore image then { t with sup := { t.sup with lastSave := .passed } }
  else raise { t with sup := { t.sup with lastSave := .failed } } .saveFailed none

/-- SAVE_COMPLETION (R170). With no save in progress there is none to complete. -/
def execSaveCompletion (readBack : StoreContents) (s : State) : Host.Outcome State Fault Refusal :=
  match s.sup.storeOp with
  | .saving image => .next (completeSave s image readBack)
  | .none => .next s
  | .loading _ => .next s

/-- Whether the mode lets LD load: WARMING, PARKED or HALT (R169). -/
def atRest : LineMode → Bool
  | .warming | .parked | .halt _ => true
  | .loading | .run => false

/-- The effect of LD (R169). -/
def ldEffect (s : State) : State × Reply :=
  if storeBusy s then (s, .error 3)
  else if atRest s.sup.mode = false then (s, .error 4)
  else if lineEmpty s = false ∨ s.returns.enRoute ≠ [] then (s, .error 4)
  else (settle (handOverAtRest s (goodImage? s.store)), okay)

/-- LD (R169). -/
def execLd (fields : List Text) (s : State) : Host.Outcome State Fault Refusal :=
  .next (takeRequest s "LD".toList (withoutFields fields ldEffect))

/-- The effect of SV (R170): the image taken, the store half written from now until the save completion. Which
serial the half-written store holds is a free value, and the counter of free values advances (log entry 2). -/
def svEffect (s : State) : State × Reply :=
  if storeBusy s then (s, .error 3)
  else
    ({ s with
        sup := { s.sup with storeOp := .saving (currentImage s), lastSave := .none }
        store := .mixed (serialWhileSaving s)
        freeIndex := s.freeIndex + 1 }, okay)

/-- SV (R170). -/
def execSv (fields : List Text) (s : State) : Host.Outcome State Fault Refusal :=
  .next (takeRequest s "SV".toList (withoutFields fields svEffect))

/-! ## XR -/

/-- A row's place at XR: those held by a collection or by the approach become UNSEEN, and the others are kept
(R131). -/
def rowAtReset (w : Row) : Row := if heldPlace w.place ∨ w.place = .queued then { w with place := .unseen } else w

/-- Admission control at XR (R44): the racks of the pending admission, the stop outcome and the held outcome
placed UNSEEN, and the stage EMPTY. -/
def clearApproach (s : State) : State :=
  let t :=
    match s.stage with
    | .admitting p _ held => dropHeld (setPlaceOf s p.rack .unseen) held none
    | .waiting _ o => setPlaceOf s o.rack? .unseen
    | .empty | .reading => s
  setStage t .empty

/-- A read in progress ends without an outcome, its attempt not counted (R28). -/
def endReads (s : State) : State :=
  { s with readers := {
      entry := { s.readers.entry with attempt := none }
      exit := { s.readers.exit with attempt := none }
      ret := { s.readers.ret with attempt := none } } }

/-- The return dispatcher at XR (R146): the list emptied, the pointers 4, the outputs OFF, and the racks of the
entries placed UNSEEN. -/
def clearReturns (s : State) : State :=
  let t := s.returns.enRoute.foldl (fun u e => setPlaceOf u e.rack .unseen) s
  { t with returns := { t.returns with
      enRoute := [], pointers := { plate := 3, cup := 3, cutlery := 3, tray := 3 },
      diverters := Vector.replicate 4 .off, returnBelt := false } }

/-- The belt tracker, the rinse monitor, the pacing controller and tray intake control at XR (R15, R88, R106,
R156). -/
def resetBlocks (s : State) : State :=
  { s with
    belt := { forwardAcc := 0, odometer := 0, reverseAcc := 0, reverseCount := 0, timer := .idle }
    rinse := { s.rinse with rinse := headAtStart, wash := headAtStart }
    pacing :=
      { exitCause := isActive s .tf, doorCause := isActive s .d1 || isActive s .d2 || isActive s .d3,
        pauseCause := false, speedDemand := par s .vnom, beltRun := false, setPoint := 0, valveOpen := false,
        stallTimer := .idle, longestOverrun := s.pacing.longestOverrun }
    tray :=
      { north := { s.tray.north with state := .stoppedLine, holdCount := 0 }
        south := { s.tray.south with state := .stoppedLine, holdCount := 0 }
        lineHeld := true, congestionTimer := 0, congested := false } }

/-- The last save result after XR: NONE if a save was ended, otherwise kept (R171). -/
def saveResultAtReset (u : Supervisor) : SaveResult :=
  match u.storeOp with
  | .saving _ => .none
  | .none => u.lastSave
  | .loading _ => u.lastSave

/-- The load that XR begins (R168, R170): a load in progress is begun again as the load it was, a power-up load
still a power-up load (DEDUCED, log entry 10); otherwise it is the load of XR. -/
def loadAtReset : StoreOp → LoadKind
  | .loading kind => kind
  | .none | .saving _ => .lineReset

/-- The line supervisor at XR (R171): LOADING, nothing draining, every alert kind cleared, the load begun, a save
in progress ended. -/
def resetSupervisor (s : State) : State :=
  refreshAlertOutput
    { s with sup := { s.sup with
        mode := .loading, draining := false, runOn := 0, lineHeld := true, alerts := Vector.replicate 20 none,
        storeOp := .loading (loadAtReset s.sup.storeOp), lastSave := saveResultAtReset s.sup } }

/-- Admission control's look at the approach eye once its stage is EMPTY: READING with a read requested while the
eye is blocked (R44). -/
def approachAfterReset (s : State) : State := resumeApproach s none

/-- OUTBOX_HIGH judged once after the closings of XR (R113). -/
def outboxHighAfterReset (s : State) : State :=
  if Config.outboxHigh ≤ s.outbox.queue.length then raise s .outboxHigh none else s

/-- The line reset (R182): every block as its own chapter gives for XR. -/
def lineReset (s : State) : State :=
  let t := clearReturns (clearApproach (closeAllReset s))
  let u := { t with registry := vectorMap (Option.map rowAtReset) t.registry }
  outboxHighAfterReset (approachAfterReset (resetSupervisor (resetBlocks (lampOff (endReads u)))))

/-- XR (R182). -/
def execXr (fields : List Text) (s : State) : Host.Outcome State Fault Refusal :=
  .next (takeRequest s "XR".toList (withoutFields fields fun t => (lineReset t, okay)))

end Sys2Proof.Machine
end

