-- ==== Sys2Proof/Machine/Dispatch.lean ====
section
/-! DEFINITION. The dispatch of commands to their meanings: one arm per constructor of Instr. -/

namespace Sys2Proof.Machine

def exec (i : Instr) (s : State) : Host.Outcome State Fault Refusal :=
  match i with
  | .powerUp rate address levels => Sys2Proof.Machine.execPowerUp rate address levels s
  | .forwardPulse => Sys2Proof.Machine.execForwardPulse s
  | .reversePulse => Sys2Proof.Machine.execReversePulse s
  | .encStall => Sys2Proof.Machine.execEncStall s
  | .inputLevelChange input high => Sys2Proof.Machine.execInputLevelChange input high s
  | .filterTimeReached input => Sys2Proof.Machine.execFilterTimeReached input s
  | .readerAnswer reader answer => Sys2Proof.Machine.execReaderAnswer reader answer s
  | .attemptTimeout reader => Sys2Proof.Machine.execAttemptTimeout reader s
  | .pollPeriodStart => Sys2Proof.Machine.execPollPeriodStart s
  | .probeAnswer bytes => Sys2Proof.Machine.execProbeAnswer bytes s
  | .probeWaitExpiry => Sys2Proof.Machine.execProbeWaitExpiry s
  | .tunnelStall => Sys2Proof.Machine.execTunnelStall s
  | .rejectLampTimeout => Sys2Proof.Machine.execRejectLampTimeout s
  | .diverterPulseEnd station => Sys2Proof.Machine.execDiverterPulseEnd station s
  | .deadlineExpiry position => Sys2Proof.Machine.execDeadlineExpiry position s
  | .holdTimerExpiry belt => Sys2Proof.Machine.execHoldTimerExpiry belt s
  | .congestionTimerStep => Sys2Proof.Machine.execCongestionTimerStep s
  | .loadCompletion => Sys2Proof.Machine.execLoadCompletion s
  | .saveCompletion readBack => Sys2Proof.Machine.execSaveCompletion readBack s
  | .overlengthLine characters => Sys2Proof.Machine.execOverlengthLine characters s
  | .lineDiscarded line => Sys2Proof.Machine.execLineDiscarded line s
  | .unknownCommand code fields => Sys2Proof.Machine.execUnknownCommand code fields s
  | .st fields => Sys2Proof.Machine.execSt fields s
  | .al fields => Sys2Proof.Machine.execAl fields s
  | .ac fields => Sys2Proof.Machine.execAc fields s
  | .am fields => Sys2Proof.Machine.execAm fields s
  | .tk fields => Sys2Proof.Machine.execTk fields s
  | .tl fields => Sys2Proof.Machine.execTl fields s
  | .rr fields => Sys2Proof.Machine.execRr fields s
  | .rs fields => Sys2Proof.Machine.execRs fields s
  | .en fields => Sys2Proof.Machine.execEn fields s
  | .dr fields => Sys2Proof.Machine.execDr fields s
  | .rt fields => Sys2Proof.Machine.execRt fields s
  | .mk fields => Sys2Proof.Machine.execMk fields s
  | .ss fields => Sys2Proof.Machine.execSs fields s
  | .sq fields => Sys2Proof.Machine.execSq fields s
  | .ps fields => Sys2Proof.Machine.execPs fields s
  | .pg fields => Sys2Proof.Machine.execPg fields s
  | .go fields => Sys2Proof.Machine.execGo fields s
  | .sp fields => Sys2Proof.Machine.execSp fields s
  | .cr fields => Sys2Proof.Machine.execCr fields s
  | .hb fields => Sys2Proof.Machine.execHb fields s
  | .hr fields => Sys2Proof.Machine.execHr fields s
  | .ld fields => Sys2Proof.Machine.execLd fields s
  | .sv fields => Sys2Proof.Machine.execSv fields s
  | .xr fields => Sys2Proof.Machine.execXr fields s
  | .dg fields => Sys2Proof.Machine.execDg fields s
  | .replyEnd => Sys2Proof.Machine.execReplyEnd s

end Sys2Proof.Machine
end

