-- ==== Sys2Proof/Safety.lean ====
section
/-! DEFINITION. What a safe state of the card is, in the terms the statements use: invariants that the manual's
prose gives the whole machine. -/

namespace Sys2Proof.Machine

/-- The belt outputs follow the mode and the hold set (R94, R95, R97), and the two timers of the belt follow the
run output: the encoder-stall timer runs exactly while it is ON (R8, R9), and the stall timer is IDLE then
(R101, R103). -/
structure OutputsFollow (s : State) : Prop where
  run     : s.pacing.beltRun = (s.sup.mode == .run && holdSetEmpty s)
  valve   : s.pacing.valveOpen = s.pacing.beltRun
  point   : s.pacing.setPoint = if s.pacing.beltRun then s.pacing.speedDemand else 0
  encoder : if s.pacing.beltRun then ∃ n, s.belt.timer = .running n else s.belt.timer = .idle
  stall   : s.pacing.beltRun = true → s.pacing.stallTimer = .idle

/-- The ALERT output is active exactly when some latched kind is not masked (R167). -/
def AlertOutputRight (s : State) : Prop :=
  s.sup.alertOutput = true ↔ ∃ k : AlertKind, (alert s k).isSome ∧ s.sup.mask[k.index] = false

/-- The serials of a queue run consecutively from the oldest to the newest and on to the next serial, 999999
being followed by 1 (R109). -/
def SerialsRun : List WashRecord → Nat → Prop
  | [], _ => True
  | [w], next => serialAfter w.serial = next
  | w :: v :: rest, next => serialAfter w.serial = v.serial ∧ SerialsRun (v :: rest) next

/-- The outbox's serials (R109). -/
def OutboxSerialsRun (s : State) : Prop := SerialsRun s.outbox.queue s.outbox.nextSerial

/-! ## The words of the statements -/

/-- Every limit that a list of the card keeps: the reservation and the tunnel list (R49, R110), and the en-route
list (R136). -/
structure WithinLimits (s : State) : Prop where
  reservation : reservation s ≤ 96
  tunnel      : s.tunnel.list.length + countOf s.stage.pending? ≤ 16
  enRoute     : s.returns.enRoute.length ≤ 24

/-- What follows the mode and the hold set besides the tunnel belt: the line-held copies, the return belt, the
diverters and the tray belts (R98, R141, R145, R153). -/
structure BlocksFollowTheLine (s : State) : Prop where
  lineHeld   : s.sup.lineHeld = !holdSetEmpty s ∧ s.tray.lineHeld = !holdSetEmpty s
  returnBelt : s.returns.returnBelt = (!stopsTrays s.sup.mode && !isActive s .rf)
  diverters  : s.sup.mode.isHalt = true → ∀ k : Station, s.returns.diverters[k] = .off
  trays      : ∀ b : TrayBelt, (trayChannel s b).state = .stoppedLine ↔ stopsTrays s.sup.mode = true

/-- Nothing is left for an event to settle: the reason of a rack that waits for one that can pass is the one that
the tests give on the state as it stands, its enrolment by AUTOENROL made (R33 to R35), the run-on count of an
occupied line is 0 (R161), no drain is complete (R162) and no run-on is complete (R161). -/
structure Settled (s : State) : Prop where
  decided  : ∀ r o, s.stage = .waiting r o → r.permanent = false →
    waitReason s o = some r
      ∧ ∀ n, o = .read n → modeAdmits s = true → par s .autoEnrol ≠ 0 → row s n ≠ none
  runOn    : lineEmpty s = true ∨ s.sup.runOn = 0
  drain    : drainEnds s = false
  parked   : runOnEnds s = false

/-- No rack at the stop waits for a reason that can pass (R34, R35). -/
def nobodyWaits (s : State) : Bool :=
  match s.stage with
  | .waiting r _ => r.permanent
  | .empty | .reading | .admitting _ _ _ => true

/-- The link can take a request: no reply is being sent (R172). -/
abbrev linkQuiet (s : State) : Prop := s.link.transmitter = .quiet

/-- The state s once a request has been answered and nothing else has changed (R172, R174). -/
def answered (s : State) (command : Text) (r : Reply) : State :=
  { s with link := { s.link with
      buffer := .idle, transmitter := .sending (replyLine s.link.address command r) } }

/-- The commands that reach the card as characters on the supervisor link. -/
def onTheLink : Instr → Bool
  | .overlengthLine _ | .lineDiscarded _ | .unknownCommand _ _ | .st _ | .al _ | .ac _ | .am _ | .tk _ | .tl _
  | .rr _ | .rs _ | .en _ | .dr _ | .rt _ | .mk _ | .ss _ | .sq _ | .ps _ | .pg _ | .go _ | .sp _ | .cr _ | .hb _
  | .hr _ | .ld _ | .sv _ | .xr _ | .dg _ => true
  | .powerUp _ _ _ | .forwardPulse | .reversePulse | .encStall | .inputLevelChange _ _ | .filterTimeReached _
  | .readerAnswer _ _ | .attemptTimeout _ | .pollPeriodStart | .probeAnswer _ | .probeWaitExpiry | .tunnelStall
  | .rejectLampTimeout | .diverterPulseEnd _ | .deadlineExpiry _ | .holdTimerExpiry _ | .congestionTimerStep
  | .loadCompletion | .saveCompletion _ | .replyEnd => false

/-- The travel events that a forward pulse gives (R3). -/
def pulseTravels (s : State) : Nat := (s.belt.forwardAcc + 100) / par s .epm

/-- An input whose filter time can be reached with its filtered state inactive: it becomes active (R17). -/
abbrev turnsOn (s : State) (i : Input) : Prop := (channel s i).qualifying = true ∧ (channel s i).filtered = false

/-- An input whose filter time can be reached with its filtered state active: it becomes inactive (R17). -/
abbrev turnsOff (s : State) (i : Input) : Prop := (channel s i).qualifying = true ∧ (channel s i).filtered = true

/-- The inputs with the filtered state of one turned over and its qualifying timer stopped (R17). -/
def inputsTurned (s : State) (i : Input) : Vector InputChannel 20 :=
  s.inputs.set i.index
    { level := (channel s i).level, filtered := !(channel s i).filtered, qualifying := false }

/-- The switch of a door. -/
def doorInput : Door → Input
  | .d1 => .d1
  | .d2 => .d2
  | .d3 => .d3

/-- The head eye of a tray belt. -/
def headEye : TrayBelt → Input
  | .north => .hn
  | .south => .hs

/-- The HEAD FULL switch of a tray belt. -/
def headFullInput : TrayBelt → Input
  | .north => .fn
  | .south => .fs

/-- The other tray belt. -/
def otherBelt : TrayBelt → TrayBelt
  | .north => .south
  | .south => .north

/-- The diverter eye of a station. -/
def diverterEye (k : Station) : Input := if k = 0 then .v1 else if k = 1 then .v2 else if k = 2 then .v3 else .v4

/-- The four characters that a tag answers after the echo: the rack number's digits and the check digit (R22,
R23). -/
def tagText (n : Rack) : Text :=
  let m := n.val + 1
  [digitChar (m / 100), digitChar (m / 10 % 10), digitChar (m % 10),
    digitChar ((3 * (m / 100) + 7 * (m / 10 % 10) + 9 * (m % 10)) % 10)]

/-- Every row is as it was, but that of the rack named, if one is, which has a new place if it is enrolled (R118). -/
def OnlyPlaced (s t : State) (rack : Option Rack) (p : Place) : Prop :=
  ∀ m : Rack, row t m = if rack = some m then (row s m).map fun w => { w with place := p } else row s m

/-- Every row is as it was, but that of the rack a wash record counts for, which is updated from the record
(R120) and placed by `place` from the place it had. -/
def OnlyWashed (s t : State) (rack : Option Rack) (v : Verdict) (serial : Nat) (place : Place → Place) : Prop :=
  ∀ m : Rack, row t m =
    if rack = some m then
      (row s m).map fun w =>
        { w with place := place w.place, washCount := min 65535 (w.washCount + 1), lastVerdict := some v,
                 lastSerial := some serial, rewashDue := v != .clean }
    else row s m

/-- Whether a station can be the target of a rack with the given row: open, taking its class, and its occupancy,
the rack's own former place there not counted, below its capacity (R138). -/
def stationTakes (s : State) (w : Row) (m : Station) : Bool :=
  let e := s.returns.stations[m]
  e.isOpen && acceptsClass e.accepted w.cls
    && decide (occupancy s m - (if w.place = .atStation m then 1 else 0) < e.capacity)

/-- The place of a rack whose check has closed: AT_UNLOAD, but a QUEUED one stays so (R65). -/
def unloaded (p : Place) : Place := if p = .queued then .queued else .atUnload

/-- The alert entry after a raise of a kind, the odometer standing at `odometer`, with a rack or none (R166). -/
def Raised (s t : State) (k : AlertKind) (odometer : Odometer) (rack : Option Rack) : Prop :=
  alert t k = some
    (match alert s k with
      | none => { count := 1, firstOdometer := odometer, lastRack := rack, untracked := false }
      | some e => { e with count := min 255 (e.count + 1), lastRack := rack })

/-- A row as a load brings it back: enrolled with its stored class, retired field and wash count, UNSEEN, and with
nothing else kept (R130, R132). -/
def rowLoaded (r : StoredRow) : Row :=
  { cls := r.cls, place := .unseen, retired := r.retired, rewashDue := false, washCount := r.washCount,
    lastVerdict := none, lastSerial := none }

/-- A request line as R173 gives it: "@", two digits, the command, the fields and the check. -/
def requestLine (address : Nat) (command : Text) (fields : List Text) (check : Nat) : Text :=
  '@' :: addressText address ++ ' ' :: command ++ (fields.flatMap fun f => ' ' :: f) ++ '*' :: hexText check

/-- The characters of a request line that its check covers (R173). -/
def checkedText (address : Nat) (command : Text) (fields : List Text) : Text :=
  addressText address ++ ' ' :: command ++ fields.flatMap fun f => ' ' :: f

/-- Whether a write is of a parameter that the SERVICE key protects, which POL is (R165, R177). -/
def keyNeeded : ParamWrite → Bool
  | .num p _ => paramProtected p
  | .pol _ => true
  | .autoClass _ => false

/-- Whether a request writes a numeric parameter that a test picks. -/
def namesAny (ws : List ParamWrite) (test : Param → Bool) : Bool :=
  ws.any fun w => match w with
    | .num p _ => test p
    | .pol _ | .autoClass _ => false

/-- Whether a write puts one of the ten positions of the zone table below 0 (R13; log entry 27). -/
def positionBelowZero : ParamWrite → Bool
  | .num p v => paramIsZone p && p != .xexit && decide (v < 0)
  | .pol _ | .autoClass _ => false

/-- The number that a write gives a parameter, if it names it. -/
def numberWritten? (p : Param) : ParamWrite → Option Int
  | .num q v => if q = p then some v else none
  | .pol _ | .autoClass _ => none

/-- The polarities that a write gives, if it names POL. -/
def polWritten? : ParamWrite → Option (Vector Bool 20)
  | .pol v => some v
  | .num _ _ | .autoClass _ => none

/-- The class that a write gives, if it names AUTOCLASS. -/
def autoClassWritten? : ParamWrite → Option RackClass
  | .autoClass k => some k
  | .num _ _ | .pol _ => none

/-- A numeric parameter after a request's writes, before two parameters bound each other: the number written, clamped
into its range (R175), POLL rounded down to a multiple of 100 (R71), a position of the zone table as written (R13);
its old value where the request does not name it. -/
def numberAfter (old : Settings) (ws : List ParamWrite) (p : Param) : Nat :=
  match ws.findSome? (numberWritten? p) with
  | none => paramGet old p
  | some v =>
    if paramIsZone p = true ∧ p ≠ .xexit then v.toNat
    else
      let n := (max ((paramRange p).1 : Int) (min v ((paramRange p).2 : Int))).toNat
      if p = .poll then n / 100 * 100 else n

/-- The settings as they stand once all the values of a request are in them: those numbers with VMIN at most VNOM
(R82) and WRESUME at least WFLOOR (R84), and POL and AUTOCLASS as written (R176). -/
def AsWritten (old : Settings) (ws : List ParamWrite) (c : Settings) : Prop :=
  (∀ p : Param, paramGet c p =
      if p = .vmin then min (numberAfter old ws .vmin) (numberAfter old ws .vnom)
      else if p = .wresume then max (numberAfter old ws .wresume) (numberAfter old ws .wfloor)
      else numberAfter old ws p)
    ∧ c.pol = (ws.findSome? polWritten?).getD old.pol
    ∧ c.autoClass = (ws.findSome? autoClassWritten?).getD old.autoClass

/-- A record that carries HALTED besides what it had (R163). -/
def haltedRecord (r : TunnelRecord) : TunnelRecord := { r with flags := { r.flags with halted := true } }

end Sys2Proof.Machine
end

