-- ==== Sys2Proof/WellFormed.lean ====
section
/-! DEFINITION. Which commands the outside world can send: the ranges of section 1.9 and the frame of chapter 12. -/

namespace Sys2Proof

/-- A field of a request: at least one character, and none of the space, the CR and the "@" that would end it or
begin another line (R172, R173). -/
def fieldWellFormed (f : Text) : Bool := !f.isEmpty && f.all fun c => c != ' ' && c != '\r' && c != '@'

/-- The characters of the request line "@aa CC f1 f2 ...*hh" that carries the given fields (R173). -/
def requestLength (fields : List Text) : Nat := 9 + (fields.map fun f => f.length + 1).sum

/-- The fields of a request that fits the receive buffer (R172, R173). -/
def fieldsWellFormed (fields : List Text) : Bool :=
  fields.all fieldWellFormed && decide (requestLength fields ≤ Config.lineLimit)

/-- A run of received characters that is one line: an "@", then neither CR nor another "@" (R172). -/
def isOneLine : Text → Bool
  | [] => false
  | c :: rest => c == '@' && rest.all fun d => d != '@' && d != '\r'

/-- The commands that can be sent: the address switch stands at 01 to 31 (section 1.9); an answer has at least
one character or byte; an en-route position lies within the list's limit (R136); an overlength line reaches 97
characters and a complete one does not (R172); an unknown command has a code of two characters that the table
of section 12.2 does not hold (R173, R175); a request fits its line. -/
def Instr.wellFormed : Instr → Bool
  | .powerUp _ address _ => decide (1 ≤ address) && decide (address ≤ 31)
  | .readerAnswer _ answer => !answer.isEmpty
  | .probeAnswer bytes => !bytes.isEmpty
  | .deadlineExpiry position => decide (position < Config.enRouteLimit)
  | .overlengthLine characters => isOneLine characters && decide (Config.lineLimit < characters.length)
  | .lineDiscarded line => isOneLine line && decide (line.length ≤ Config.lineLimit)
  | .unknownCommand code fields =>
    decide (code.length = 2) && code.all (fun c => c != '\r' && c != '@') && !Config.commandCodes.contains code
      && fieldsWellFormed fields
  | .st f | .al f | .ac f | .am f | .tk f | .tl f | .rr f | .rs f | .en f | .dr f | .rt f | .mk f | .ss f
  | .sq f | .ps f | .pg f | .go f | .sp f | .cr f | .hb f | .hr f | .ld f | .sv f | .xr f | .dg f =>
    fieldsWellFormed f
  | .forwardPulse | .reversePulse | .encStall | .inputLevelChange _ _ | .filterTimeReached _ | .attemptTimeout _
  | .pollPeriodStart | .probeWaitExpiry | .tunnelStall | .rejectLampTimeout | .diverterPulseEnd _
  | .holdTimerExpiry _ | .congestionTimerStep | .loadCompletion | .saveCompletion _ | .replyEnd => true

end Sys2Proof
end

