-- ==== Sys2Proof/Certificates/Slice0/Obligations.lean ====
section
/-! DEFINITION. The statements for the provers. Each docstring names the rule of spec/ that it formalises, or the
log entry of a choice of the model's. A frame is written `t = { s with … }`: every block that is not listed is
unchanged. -/

open Sys2Proof Sys2Proof.Machine

/-! ## The queue and the link's receiver -/

/-- A step is the command at the front of the queue, executed on the state with the queue's rest; on an empty queue
the card idles (the model's choice, log entry 4). -/
def Obligations.StepTakesTheFrontCommand : Prop :=
  (∀ (c : Instr) (rest : List Instr) (s : State), s.pending = c :: rest →
    step s = exec c { s with pending := rest })
  ∧ ∀ s : State, s.pending = [] → step s = .next s

/-- Every command of the table is executed in every state: it answers a next state, and never a fault or a refusal,
and it leaves the queue of waiting commands alone. -/
def Obligations.EveryCommandCompletes : Prop :=
  ∀ (c : Instr) (s : State), ∃ t, exec c s = .next t ∧ t.pending = s.pending

/-- Characters that reach the pair while a reply is being sent are lost: no request and no line then changes
anything (R172). -/
def Obligations.LinesAreLostWhileSending : Prop :=
  ∀ (c : Instr) (s : State) (reply : Text), onTheLink c = true → s.link.transmitter = .sending reply →
    exec c s = .next s

/-! ## Belt tracker (chapter 1) -/

/-- A forward pulse that completes no millimetre adds 100 to the forward accumulator, restarts the count of a
running encoder-stall timer, and changes nothing else (R3, R8). -/
def Obligations.ForwardPulseShortOfAMillimetre : Prop :=
  ∀ s : State, s.belt.forwardAcc + 100 < par s .epm →
    exec .forwardPulse s = .next
      { s with belt := { s.belt with
          forwardAcc := s.belt.forwardAcc + 100
          timer :=
            match s.belt.timer with
            | .running _ => .running 0
            | .idle => .idle
            | .expired => .expired } }

/-- A forward pulse that completes one or two millimetres advances the odometer by as many, wrapping at 2^24, keeps
the remainder and clears the reverse count and accumulator; whatever the travel events lead to, the inputs, the
probes, the link, the settings and the station side of the return belt are untouched, and the en-route list gives up
at most the rack of the outcome kept at the entry stop, which may be admitted (R3, R5, R6). That the
list gives it up is the model's choice, log entry 22. -/
def Obligations.ForwardPulseAdvancesTheOdometer : Prop :=
  ∀ s : State, 50 ≤ par s .epm → s.belt.forwardAcc < par s .epm → par s .epm ≤ s.belt.forwardAcc + 100 →
    pulseTravels s ≤ 2 ∧
    ∃ t, exec .forwardPulse s = .next t
      ∧ t.belt.odometer = s.belt.odometer + BitVec.ofNat 24 (pulseTravels s)
      ∧ t.belt.forwardAcc = (s.belt.forwardAcc + 100) % par s .epm
      ∧ t.belt.reverseAcc = 0 ∧ t.belt.reverseCount = 0
      ∧ (t.returns.enRoute = s.returns.enRoute
          ∨ ∃ n, rackAtStop s.stage = some n
              ∧ t.returns.enRoute = s.returns.enRoute.filter fun e => e.rack != some n)
      ∧ t.returns.stations = s.returns.stations ∧ t.returns.pointers = s.returns.pointers
      ∧ t = { s with
          belt := t.belt, readers := t.readers, stage := t.stage, tunnel := t.tunnel, pacing := t.pacing,
          outbox := t.outbox, registry := t.registry, returns := t.returns, tray := t.tray, sup := t.sup }

/-- A millimetre on an empty, unheld RUN line that is not draining counts towards RUNON, and the one that reaches
RUNON parks the line and stops the belt (R161, R94). -/
def Obligations.RunOnParksAnEmptyLine : Prop :=
  ∀ s : State, s.stage = .empty ∨ s.stage = .reading → pulseTravels s = 1 →
    s.sup.mode = .run → lineEmpty s = true → s.sup.draining = false → s.sup.lineHeld = false →
    ∃ t, exec .forwardPulse s = .next t
      ∧ (if s.sup.runOn + 1 < par s .runon then
          t.sup = { s.sup with runOn := s.sup.runOn + 1 } ∧ t.pacing = s.pacing ∧ t.tray = s.tray
            ∧ t.returns = s.returns
        else t.sup = { s.sup with mode := .parked, runOn := 0 } ∧ t.pacing.beltRun = false)
      ∧ t = { s with
          belt := t.belt, pacing := t.pacing, tray := t.tray, sup := t.sup,
          returns := { s.returns with returnBelt := t.returns.returnBelt } }

/-- A millimetre while an admission is pending counts towards its lapse; at ADMITLAPSE the admission lapses:
ENTRY_MISS with its rack or none, its rack UNSEEN, and, with the approach eye clear, the stage EMPTY (R39). -/
def Obligations.PendingAdmissionLapses : Prop :=
  ∀ (s : State) (p : Pending) (n : Nat) (held : Option ReadOutcome),
    s.stage = .admitting p n held → s.tunnel.list = [] → pulseTravels s = 1 → isActive s .ap = false →
    ∃ t, exec .forwardPulse s = .next t
      ∧ (if n + 1 < par s .admitLapse then
          t.stage = .admitting p (n + 1) held ∧ t.registry = s.registry ∧ t.sup.alerts = s.sup.alerts
        else
          t.stage = .empty ∧ Raised s t .entryMiss (s.belt.odometer + 1) p.rack ∧ OnlyPlaced s t p.rack .unseen)
      ∧ t.returns.enRoute = s.returns.enRoute
      ∧ t = { s with
          belt := t.belt, stage := t.stage, pacing := t.pacing, registry := t.registry, returns := t.returns,
          tray := t.tray, sup := t.sup }

/-- The millimetre that carries the head past XEXIT + EXTOL closes it as MISSING: a wash record with its exposures,
no exit odometer and the verdict UNKNOWN at the outbox's tail, EXIT_MISSING with its rack or none, its rack's row
updated and placed LOST, and the rest of the list kept (R53, R64, R108, R120). -/
def Obligations.OverdueHeadIsClosedAsMissing : Prop :=
  ∀ (s : State) (h : TunnelRecord) (rest : List TunnelRecord),
    s.tunnel.list = h :: rest → s.stage = .empty ∨ s.stage = .reading → pulseTravels s = 1 →
    par s .xexit + par s .extol ≤ 12300 → travel s h.entry = par s .xexit + par s .extol →
    (∀ q ∈ rest.head?, travel s q.entry < par s .xexit + par s .extol) →
    ∃ t, exec .forwardPulse s = .next t
      ∧ t.tunnel = { s.tunnel with list := rest }
      ∧ t.outbox.queue = s.outbox.queue ++
          [{ serial := s.outbox.nextSerial, rack := h.rack, readNumber := none, cls := h.cls, entry := some h.entry,
             exit := none, dose := h.dose, washTime := h.washTime, minRinse := h.minRinse, verdict := .unknown,
             flags := { h.flags with missing := true } }]
      ∧ t.outbox.nextSerial = (if s.outbox.nextSerial < 999999 then s.outbox.nextSerial + 1 else 1)
      ∧ Raised s t .exitMissing (s.belt.odometer + 1) h.rack
      ∧ OnlyWashed s t h.rack .unknown s.outbox.nextSerial (fun _ => .lost)
      ∧ t.stage = s.stage ∧ t.returns.enRoute = s.returns.enRoute
      ∧ t = { s with
          belt := t.belt, tunnel := t.tunnel, pacing := t.pacing, outbox := t.outbox, registry := t.registry,
          returns := t.returns, tray := t.tray, sup := t.sup }

/-- Reverse pulses: while the reverse count stays below 50, or stands at 50, a pulse changes only the reverse
accumulator and the count, which stops at 50 (R6); the reverse millimetre that brings it to 50 raises BELT_REVERSE
with no rack and halts the line with that cause whatever the mode, every tunnel record receiving HALTED (R7,
R163). -/
def Obligations.ReverseTravelHaltsAtFifty : Prop :=
  ∀ s : State, 0 < par s .epm →
    (s.belt.reverseCount = 50 ∨ s.belt.reverseCount + (s.belt.reverseAcc + 100) / par s .epm < 50 →
      exec .reversePulse s = .next
        { s with belt := { s.belt with
            reverseAcc := (s.belt.reverseAcc + 100) % par s .epm
            reverseCount := min 50 (s.belt.reverseCount + (s.belt.reverseAcc + 100) / par s .epm) } })
    ∧ (s.belt.reverseCount < 50 → 50 ≤ s.belt.reverseCount + (s.belt.reverseAcc + 100) / par s .epm →
      ∃ t, exec .reversePulse s = .next t
        ∧ t.belt.reverseCount = 50 ∧ t.belt.odometer = s.belt.odometer ∧ t.belt.forwardAcc = s.belt.forwardAcc
        ∧ Raised s t .beltReverse s.belt.odometer none
        ∧ t.sup.mode = .halt .beltReverse
        ∧ t.tunnel = { s.tunnel with list := s.tunnel.list.map haltedRecord }
        ∧ t = { s with
            belt := t.belt, stage := t.stage, tunnel := t.tunnel, pacing := t.pacing,
            returns := t.returns, tray := t.tray, sup := t.sup })

/-- The encoder-stall timer, its count about to reach 30, expires, both at ENC_STALL and within the 0.1 s step:
ENC_STALL with no rack, HALT with that cause, every tunnel record HALTED, the belt, the valve, the return belt and the
tray belts off and the timer IDLE (R9, R163, R94, R145, R153). That either of the two commands may bring the thirtieth
tenth is the model's choice, log entry 5. -/
def Obligations.EncoderStallHaltsTheLine : Prop :=
  (∀ (s : State) (n : Nat), OutputsFollow s → s.belt.timer = .running n → 30 ≤ n + 1 →
    ∃ t, exec .encStall s = .next t
      ∧ Raised s t .encStall s.belt.odometer none
      ∧ t.sup.mode = .halt .encStall
      ∧ t.pacing.beltRun = false ∧ t.pacing.valveOpen = false ∧ t.pacing.setPoint = 0
      ∧ t.belt = { s.belt with timer := .idle }
      ∧ t.tunnel = { s.tunnel with list := s.tunnel.list.map haltedRecord }
      ∧ t.returns = { s.returns with returnBelt := false, diverters := Vector.replicate 4 .off }
      ∧ t.tray.north.state = .stoppedLine ∧ t.tray.south.state = .stoppedLine
      ∧ t = { s with
          belt := t.belt, stage := t.stage, tunnel := t.tunnel, pacing := t.pacing,
          returns := t.returns, tray := t.tray, sup := t.sup })
  ∧ ∀ (s : State) (n : Nat), OutputsFollow s → s.belt.timer = .running n → 30 ≤ n + 1 →
    ∃ t, exec .congestionTimerStep s = .next t
      ∧ Raised s t .encStall s.belt.odometer none
      ∧ t.sup.mode = .halt .encStall
      ∧ t.pacing.beltRun = false ∧ t.pacing.valveOpen = false ∧ t.pacing.setPoint = 0
      ∧ t.belt = { s.belt with timer := .idle }
      ∧ t.tunnel.list = s.tunnel.list.map haltedRecord ∧ t.tunnel.slot = s.tunnel.slot
      ∧ t.returns = { s.returns with
          enRoute := t.returns.enRoute, returnBelt := false, diverters := Vector.replicate 4 .off }
      ∧ t.tray.north.state = .stoppedLine ∧ t.tray.south.state = .stoppedLine
      ∧ t = { s with
          belt := t.belt, stage := t.stage, tunnel := t.tunnel, pacing := t.pacing, registry := t.registry,
          returns := t.returns, tray := t.tray, sup := t.sup }

/-! ## Field inputs (chapter 2) -/

/-- A change of level stops the qualifying timer of an input that it brings into agreement with its filtered state
and starts that of one it brings out of agreement, and changes nothing else; a filter time reached turns that one
filtered state over and stops its timer, and touches no level, no other input, no probe and nothing of the link or
the settings (R17). -/
def Obligations.InputsAreFilteredOneByOne : Prop :=
  (∀ (i : Input) (high : Bool) (s : State),
    exec (.inputLevelChange i high) s = .next
      { s with
        inputs := s.inputs.set i.index <|
          if (channel s i).level = high then channel s i
          else
            { level := high
              filtered := (channel s i).filtered
              qualifying := (high == s.settings.pol[i.index]) != (channel s i).filtered } })
  ∧ ∀ (i : Input) (s : State), (channel s i).qualifying = true →
    ∃ t, exec (.filterTimeReached i) s = .next t
      ∧ t.inputs = inputsTurned s i
      ∧ t.belt.odometer = s.belt.odometer ∧ t.rinse = s.rinse ∧ t.link = s.link ∧ t.settings = s.settings
      ∧ t.store = s.store

/-- The model's choice for events that cannot arise in the state they find, a timer with more than its last tenth to
go among them (log entries 5 and 6): nothing changes. -/
def Obligations.EventsThatCannotAriseChangeNothing : Prop :=
  (∀ (i : Input) (s : State), (channel s i).qualifying = false → exec (.filterTimeReached i) s = .next s)
  ∧ (∀ (r : Reader) (s : State), (reader s r).attempt = none → exec (.attemptTimeout r) s = .next s)
  ∧ (∀ s : State, (∀ n, s.belt.timer = .running n → n + 1 < 30) → exec .encStall s = .next s)
  ∧ (∀ s : State, s.pacing.stallTimer ≠ .counting 1 → exec .tunnelStall s = .next s)
  ∧ (∀ s : State, (∀ n, s.tunnel.lamp = .on n → 1 < n) → exec .rejectLampTimeout s = .next s)
  ∧ (∀ (k : Station) (s : State), (∀ n, s.returns.diverters[k] = .pulsing n → 1 < n) →
      exec (.diverterPulseEnd k) s = .next s)
  ∧ (∀ (i : Nat) (s : State), s.returns.returnBelt = false ∨ (∀ e ∈ s.returns.enRoute[i]?, 1 < e.deadline) →
      exec (.deadlineExpiry i) s = .next s)
  ∧ (∀ (b : TrayBelt) (s : State), (∀ n, (trayChannel s b).state = .held n → 1 < n) →
      exec (.holdTimerExpiry b) s = .next s)
  ∧ (∀ s : State, s.sup.storeOp = .none → exec .loadCompletion s = .next s)
  ∧ (∀ (found : StoreContents) (s : State), s.sup.storeOp = .none → exec (.saveCompletion found) s = .next s)
  ∧ (∀ s : State, s.rinse.cycle = .notStarted →
      exec .pollPeriodStart s = .next s ∧ exec .probeWaitExpiry s = .next s)

/-- A door opens: DOOR is set, the belt is off, and exactly the tunnel records whose centre is in that door's span
receive DOOR, whatever the mode and whether or not the belt runs. A door closes: no record is flagged, and DOOR is
set exactly while some door is open (R92, R99). -/
def Obligations.DoorsHoldTheBeltAndFlagTheRacks : Prop :=
  ∀ (d : Door) (s : State),
    (turnsOn s (doorInput d) →
      ∃ t, exec (.filterTimeReached (doorInput d)) s = .next t
        ∧ t.inputs = inputsTurned s (doorInput d)
        ∧ t.pacing.doorCause = true ∧ t.pacing.beltRun = false
        ∧ t.tunnel = { s.tunnel with
            list := s.tunnel.list.map fun r =>
              if inDoorSpan s d r then { r with flags := { r.flags with door := true } } else r }
        ∧ t.outbox = s.outbox ∧ t.rinse = s.rinse ∧ t.readers = s.readers ∧ t.link = s.link)
    ∧ (turnsOff s (doorInput d) →
      ∃ t, exec (.filterTimeReached (doorInput d)) s = .next t
        ∧ t.inputs = inputsTurned s (doorInput d)
        ∧ t.pacing.doorCause = (isActive t .d1 || isActive t .d2 || isActive t .d3)
        ∧ t.tunnel = s.tunnel ∧ t.outbox = s.outbox ∧ t.rinse = s.rinse ∧ t.readers = s.readers
        ∧ t.link = s.link)

/-- TABLE FULL becomes active on a running belt: EXIT is set, the belt and the valve are off, the set point is 0,
the encoder-stall timer is IDLE, the stall timer is loaded with STALL times 10 where the tunnel list holds a
record, and both line-held copies are set; nothing else changes (R91, R94, R98, R101). -/
def Obligations.TableFullStopsTheBelt : Prop :=
  ∀ s : State, OutputsFollow s → Settled s → nobodyWaits s = true → s.pacing.beltRun = true → turnsOn s .tf →
    exec (.filterTimeReached .tf) s = .next
      { s with
        inputs := inputsTurned s .tf
        belt := { s.belt with timer := .idle }
        pacing := { s.pacing with
          exitCause := true, beltRun := false, setPoint := 0, valveOpen := false
          stallTimer :=
            if s.tunnel.list = [] then s.pacing.stallTimer else .counting ((par s .stall * 10 : Nat) : Int) }
        sup := { s.sup with lineHeld := true }
        tray := { s.tray with lineHeld := true } }

/-- The ESTOP loop opens: cause ESTOP replaces any earlier cause, ESTOP is raised with no rack, every tunnel record
receives HALTED and the record in the exit check does not; a line that was not in HALT enters it with the tray
belts, the return belt and the diverters off, and one that was in HALT changes no output (R163, R141, R145,
R153). -/
def Obligations.EstopHaltsTheLine : Prop :=
  ∀ s : State, turnsOn s .es →
    ∃ t, exec (.filterTimeReached .es) s = .next t
      ∧ t.inputs = inputsTurned s .es
      ∧ t.sup.mode = .halt .estop ∧ t.sup.draining = s.sup.draining
      ∧ Raised s t .estop s.belt.odometer none
      ∧ t.tunnel = { s.tunnel with list := s.tunnel.list.map haltedRecord }
      ∧ (if s.sup.mode.isHalt then t.pacing = s.pacing ∧ t.returns = s.returns ∧ t.tray = s.tray
        else t.pacing.beltRun = false
          ∧ t.returns = { s.returns with returnBelt := false, diverters := Vector.replicate 4 .off }
          ∧ t.tray.north = { s.tray.north with state := .stoppedLine }
          ∧ t.tray.south = { s.tray.south with state := .stoppedLine })
      ∧ t = { s with
          belt := t.belt, inputs := t.inputs, stage := t.stage, tunnel := t.tunnel, pacing := t.pacing,
          returns := t.returns, tray := t.tray, sup := t.sup }

/-- RETURN END FULL turns the return belt by the mode and its own state, and changes nothing else (R145). HEAD FULL
becoming active puts a belt in RUNNING or HELD into STOPPED_FULL, and becoming inactive returns one in STOPPED_FULL
to RUNNING; the hold count, the other belt and everything else are kept (R152). -/
def Obligations.FullSwitchesStopTheirBelts : Prop :=
  (∀ s : State, (channel s .rf).qualifying = true →
    exec (.filterTimeReached .rf) s = .next
      { s with
        inputs := inputsTurned s .rf
        returns := { s.returns with
          returnBelt := !stopsTrays s.sup.mode && (channel s .rf).filtered } })
  ∧ ∀ (b : TrayBelt) (s : State), (channel s (headFullInput b)).qualifying = true →
    ∃ t, exec (.filterTimeReached (headFullInput b)) s = .next t
      ∧ trayChannel t b = { trayChannel s b with
          state :=
            match (channel s (headFullInput b)).filtered, (trayChannel s b).state with
            | false, .running => .stoppedFull
            | false, .held _ => .stoppedFull
            | true, .stoppedFull => .running
            | _, other => other }
      ∧ trayChannel t (otherBelt b) = trayChannel s (otherBelt b)
      ∧ t.tray.lineHeld = s.tray.lineHeld ∧ t.tray.congestionTimer = s.tray.congestionTimer
      ∧ t.tray.congested = s.tray.congested
      ∧ t = { s with inputs := inputsTurned s (headFullInput b), tray := t.tray }

/-- A tray reaches the head of a belt in RUNNING: on a congested scullery the belt is HELD for HOLDT times 10 tenths
and its hold count rises while it is below HOLDLIM, and at HOLDLIM it leaks; without congestion its hold count
becomes 0. In the other three states nothing changes but the eye (R150). -/
def Obligations.TraysAreHeldWhileCongested : Prop :=
  ∀ (b : TrayBelt) (s : State), turnsOn s (headEye b) →
    ∃ t, exec (.filterTimeReached (headEye b)) s = .next t
      ∧ trayChannel t (otherBelt b) = trayChannel s (otherBelt b)
      ∧ (if (trayChannel s b).state ≠ .running then t.tray = s.tray ∧ t.sup = s.sup
        else if s.tray.congested = false then
          trayChannel t b = { trayChannel s b with holdCount := 0 } ∧ t.sup = s.sup
        else if (trayChannel s b).holdCount < par s .holdlim then
          trayChannel t b =
            { trayChannel s b with
              state := .held (par s .holdt * 10), holdCount := (trayChannel s b).holdCount + 1 }
          ∧ t.sup = s.sup
        else
          trayChannel t b =
            { trayChannel s b with holdCount := 0, leakCount := min 65535 ((trayChannel s b).leakCount + 1) }
          ∧ Raised s t .trayLeak s.belt.odometer none)
      ∧ t.tray.congestionTimer = s.tray.congestionTimer ∧ t.tray.congested = s.tray.congested
      ∧ t = { s with inputs := inputsTurned s (headEye b), tray := t.tray, sup := t.sup }

/-- The approach eye becomes blocked on an EMPTY approach: the stage is READING and the ENTRY reader, which was
IDLE, is at attempt 1, its request Q1 (R22, R24, R30). It clears: a READING or WAITING stage becomes EMPTY, the
reader is IDLE with its failure count kept and no request out, and the rack of a stop outcome, if enrolled, is placed
UNSEEN, whatever its place was (R26, R42, R118). That an en-route entry which has come to carry it gives it up is the
model's choice, log entry 21. Nothing else changes. -/
def Obligations.ApproachEyeOpensAndEndsTheStage : Prop :=
  (∀ s : State, Settled s → s.stage = .empty → s.readers.entry.attempt = none → turnsOn s .ap →
    exec (.filterTimeReached .ap) s = .next
      { s with
        inputs := inputsTurned s .ap
        stage := .reading
        readers := { s.readers with entry := { s.readers.entry with attempt := some 1 } } }
    ∧ readRequest { s.readers.entry with attempt := some 1 } = some ['Q', '1']
    ∧ readRequest { s.readers.entry with attempt := none } = none)
  ∧ (∀ s : State, Settled s → s.stage = .reading → turnsOff s .ap →
    exec (.filterTimeReached .ap) s = .next
      { s with
        inputs := inputsTurned s .ap
        stage := .empty
        readers := { s.readers with entry := { s.readers.entry with attempt := none } } })
  ∧ ∀ (s : State) (why : WaitReason) (o : ReadOutcome), Settled s → s.stage = .waiting why o → turnsOff s .ap →
    ∃ t, exec (.filterTimeReached .ap) s = .next t
      ∧ OnlyPlaced s t
          (match o with | .read n => some n | .unread => none) .unseen
      ∧ t.returns.enRoute =
          (match o with
            | .read n => if row s n = none then s.returns.enRoute
                else s.returns.enRoute.filter fun e => e.rack != some n
            | .unread => s.returns.enRoute)
      ∧ t = { s with
          inputs := inputsTurned s .ap
          stage := .empty
          readers := { s.readers with entry := { s.readers.entry with attempt := none } }
          registry := t.registry
          returns := { s.returns with enRoute := t.returns.enRoute } }

/-! ## Admission (chapter 3) -/

/-- The entry eye becomes blocked while an admission is pending: a record with its rack and class, this odometer,
zero exposures and the flags ANON and REWASH as they apply joins the tunnel list at its tail, its rack is placed
IN_TUNNEL, and, with the approach eye clear, the stage is EMPTY (R38). -/
def Obligations.EntryEyeTakesThePendingAdmission : Prop :=
  ∀ (s : State) (p : Pending) (n : Nat) (held : Option ReadOutcome),
    s.stage = .admitting p n held → isActive s .ap = false → turnsOn s .en →
    ∃ t, exec (.filterTimeReached .en) s = .next t
      ∧ t.tunnel = { s.tunnel with
          list := s.tunnel.list ++
            [{ rack := p.rack, cls := p.cls, entry := s.belt.odometer, dose := 0, washTime := 0, minRinse := none,
               flags := { anon := p.rack.isNone, rewash := p.rewash } }] }
      ∧ t.stage = .empty ∧ t.sup = { s.sup with runOn := 0 }
      ∧ OnlyPlaced s t p.rack .inTunnel
      ∧ t = { s with
          inputs := inputsTurned s .en, stage := t.stage, tunnel := t.tunnel, registry := t.registry, sup := t.sup
          pacing := { s.pacing with stallTimer := t.pacing.stallTimer } }

/-- The entry eye becomes blocked with no admission pending: where the tunnel list and the reservation leave room an
anonymous FORCED record joins the list and ENTRY_FORCED is raised with no rack; where they do not, no record is made
and ENTRY_FORCED carries the untracked mark. Neither the stage nor any registry place changes (R41). -/
def Obligations.ForcedEntriesAreTrackedWhileThereIsRoom : Prop :=
  ∀ s : State, s.stage.pending? = none → nobodyWaits s = true → turnsOn s .en →
    ∃ t, exec (.filterTimeReached .en) s = .next t
      ∧ t.stage = s.stage ∧ t.registry = s.registry ∧ t.outbox = s.outbox
      ∧ (if s.tunnel.list.length < 16 ∧ reservation s + 1 ≤ 96 then
          t.tunnel = { s.tunnel with
            list := s.tunnel.list ++
              [{ rack := none, cls := none, entry := s.belt.odometer, dose := 0, washTime := 0, minRinse := none,
                 flags := { anon := true, forced := true } }] }
          ∧ Raised s t .entryForced s.belt.odometer none
        else
          t.tunnel = s.tunnel
          ∧ ∃ e, alert t .entryForced = some e ∧ e.untracked = true ∧ e.lastRack = none)
      ∧ t = { s with
          inputs := inputsTurned s .en, tunnel := t.tunnel, pacing := t.pacing, belt := t.belt, tray := t.tray,
          sup := t.sup, returns := { s.returns with returnBelt := t.returns.returnBelt } }

/-- The read of an enrolled rack that no reason stops, by the ENTRY reader in stage READING: the rack is admitted.
The stage is ADMITTING with its number, its class and its rewash mark and lapse count 0, its place is ADMITTING, no
en-route entry carries it any more, the run-on count is 0, and a PARKED line is woken to RUN. A vacant row with
AUTOENROL 1 is enrolled with AUTOCLASS and admitted so. In stage ADMITTING the read of a rack with no other place to
give up becomes the held outcome: it is QUEUED, and the rack of an outcome held before leaves the stop UNSEEN,
whatever its place was (R29, R31 to R34, R36, R37, R118, R160). That an admission takes a rack off the en-route list
whatever its place, and that the list gives up a rack which leaves the stop, is the model's choice, log entries 22
and 21. -/
def Obligations.ApproachReadAdmits : Prop :=
  (∀ (s : State) (a : Nat) (n : Rack),
    1 ≤ a → a ≤ 3 → s.readers.entry.attempt = some a → s.stage = .reading →
    s.sup.mode = .run ∨ s.sup.mode = .parked → s.sup.draining = false →
    s.tunnel.list.length < 16 → reservation s < 96 →
    (∀ r ∈ s.tunnel.list.getLast?, par s .spacing ≤ travel s r.entry) →
    (∀ w, row s n = some w → w.retired = false ∧ w.place ≠ .inTunnel ∧ w.place ≠ .atExit ∧ w.place ≠ .admitting) →
    (row s n = none → par s .autoEnrol = 1) →
    ∃ t, exec (.readerAnswer .entry (digitChar a :: tagText n)) s = .next t
      ∧ (∀ w, row s n = some w →
          t.stage = .admitting { rack := some n, cls := some w.cls, rewash := w.rewashDue } 0 none
          ∧ OnlyPlaced s t (some n) .admitting)
      ∧ (row s n = none →
          t.stage = .admitting { rack := some n, cls := some s.settings.autoClass, rewash := false } 0 none
          ∧ ∀ m : Rack, row t m =
              if m = n then
                some { cls := s.settings.autoClass, place := .admitting, retired := false, rewashDue := false,
                       washCount := 0, lastVerdict := none, lastSerial := none }
              else row s m)
      ∧ t.readers = { s.readers with entry := { s.readers.entry with attempt := none } }
      ∧ t.sup = { s.sup with mode := .run, runOn := 0 }
      ∧ t.returns.enRoute = s.returns.enRoute.filter (fun e => e.rack != some n)
      ∧ (s.sup.mode = .run → t.pacing = s.pacing ∧ t.belt = s.belt ∧ t.tray = s.tray
          ∧ t.returns = { s.returns with enRoute := t.returns.enRoute })
      ∧ (s.sup.mode = .parked → t.pacing.beltRun = holdSetEmpty s)
      ∧ t = { s with
          belt := t.belt, readers := t.readers, stage := t.stage, pacing := t.pacing, registry := t.registry,
          tray := t.tray, sup := t.sup,
          returns := { s.returns with enRoute := t.returns.enRoute, returnBelt := t.returns.returnBelt } })
  ∧ ∀ (s : State) (a : Nat) (n : Rack) (p : Pending) (lapse : Nat) (held : Option ReadOutcome),
    1 ≤ a → a ≤ 3 → s.readers.entry.attempt = some a → s.stage = .admitting p lapse held →
    (∀ w, row s n = some w →
      w.place ≠ .inTunnel ∧ w.place ≠ .atExit ∧ w.place ≠ .onReturn ∧ w.place ≠ .admitting) →
    ∃ t, exec (.readerAnswer .entry (digitChar a :: tagText n)) s = .next t
      ∧ t.stage = .admitting p lapse (some (.read n))
      ∧ (∀ m : Rack, row t m =
          if m = n then (row s m).map fun w => { w with place := .queued }
          else if held = some (.read m) then
            (row s m).map fun w => { w with place := .unseen }
          else row s m)
      ∧ t.returns.enRoute = s.returns.enRoute.filter (fun e =>
          !(e.rack == some n && (row s n).isNone)
            && !(e.rack.any fun m => m != n && held == some (.read m) && (row s m).isSome))
      ∧ t = { s with
          readers := { s.readers with entry := { s.readers.entry with attempt := none } }
          stage := t.stage, registry := t.registry, returns := { s.returns with enRoute := t.returns.enRoute }
          sup := { s.sup with runOn := 0 } }

/-- The read of a retired rack, or of a vacant row with AUTOENROL 0, where the mode admits: the stage is WAITING
with RETIRED or UNENROLLED and ENTRY_REFUSED is raised with the rack; a retired rack is placed QUEUED, and a vacant
row stays vacant (R31, R32, R33, R34). -/
def Obligations.RetiredAndUnenrolledRacksAreRefused : Prop :=
  ∀ (s : State) (a : Nat) (n : Rack),
    1 ≤ a → a ≤ 3 → s.readers.entry.attempt = some a → s.stage = .reading → Settled s →
    s.sup.mode = .run ∨ s.sup.mode = .parked → s.sup.draining = false →
    (∀ w, row s n = some w → w.retired = true →
      w.place ≠ .inTunnel → w.place ≠ .atExit → w.place ≠ .onReturn →
      ∃ t, exec (.readerAnswer .entry (digitChar a :: tagText n)) s = .next t
        ∧ t.stage = .waiting .retired (.read n) ∧ OnlyPlaced s t (some n) .queued
        ∧ Raised s t .entryRefused s.belt.odometer (some n)
        ∧ t = { s with
            readers := { s.readers with entry := { s.readers.entry with attempt := none } }
            stage := t.stage, registry := t.registry
            sup := { s.sup with alerts := t.sup.alerts, alertOutput := t.sup.alertOutput } })
    ∧ (row s n = none → par s .autoEnrol = 0 →
      ∃ t, exec (.readerAnswer .entry (digitChar a :: tagText n)) s = .next t
        ∧ t.stage = .waiting .unenrolled (.read n)
        ∧ Raised s t .entryRefused s.belt.odometer (some n)
        ∧ t.returns.enRoute = s.returns.enRoute.filter (fun e => e.rack != some n)
        ∧ t = { s with
            readers := { s.readers with entry := { s.readers.entry with attempt := none } }
            stage := t.stage
            returns := { s.returns with enRoute := t.returns.enRoute }
            sup := { s.sup with alerts := t.sup.alerts, alertOutput := t.sup.alertOutput } })

/-! ## The tunnel list and the exit check (chapter 4) -/

/-- A rack at the exit eye: the head in the exit window moves into the exit check with this odometer and its rack
is placed AT_EXIT; with the list empty or its head early, EXIT_EXTRA is raised, and an EXTRA record is made where
the reservation leaves room, and EXTRA_UNLOGGED raised where it does not. The lamp is off, and the EXIT reader is at
attempt 1 (R50, R51, R52, R24). -/
def Obligations.ExitEyeMatchesTheHeadOrFindsAnExtra : Prop :=
  ∀ s : State, s.tunnel.slot = none → nobodyWaits s = true → s.readers.exit.attempt = none → turnsOn s .ex →
    (∀ (h : TunnelRecord) (rest : List TunnelRecord), s.tunnel.list = h :: rest →
      par s .xexit ≤ travel s h.entry + par s .extol → travel s h.entry ≤ par s .xexit + par s .extol →
      ∃ t, exec (.filterTimeReached .ex) s = .next t
        ∧ t.tunnel =
            { list := rest
              slot := some
                { rack := h.rack, cls := h.cls, entry := some h.entry, exit := s.belt.odometer, dose := h.dose,
                  washTime := h.washTime, minRinse := h.minRinse, flags := h.flags, readNumber := none }
              lamp := .off }
        ∧ OnlyPlaced s t h.rack .atExit
        ∧ t.readers = { s.readers with exit := { s.readers.exit with attempt := some 1 } }
        ∧ t.sup.alerts = s.sup.alerts
        ∧ t = { s with
            belt := t.belt, inputs := inputsTurned s .ex, readers := t.readers, tunnel := t.tunnel,
            pacing := t.pacing, registry := t.registry, returns := t.returns, tray := t.tray, sup := t.sup })
    ∧ ((∀ h ∈ s.tunnel.list.head?, travel s h.entry + par s .extol < par s .xexit) →
      ∃ t, exec (.filterTimeReached .ex) s = .next t
        ∧ t.tunnel =
            { list := s.tunnel.list
              slot :=
                if reservation s + 1 ≤ 96 then
                  some
                    { rack := none, cls := none, entry := none, exit := s.belt.odometer, dose := 0, washTime := 0,
                      minRinse := none, flags := { extra := true }, readNumber := none }
                else none
              lamp := .off }
        ∧ Raised s t .exitExtra s.belt.odometer none
        ∧ (if reservation s + 1 ≤ 96 then alert t .extraUnlogged = alert s .extraUnlogged
          else Raised s t .extraUnlogged s.belt.odometer none)
        ∧ t.registry = s.registry
        ∧ t.readers = { s.readers with exit := { s.readers.exit with attempt := some 1 } }
        ∧ t = { s with
            belt := t.belt, inputs := inputsTurned s .ex, readers := t.readers, tunnel := t.tunnel,
            pacing := t.pacing, registry := t.registry, returns := t.returns, tray := t.tray, sup := t.sup })

/-- The exit eye clears on an occupied check: the record gets EXIT_UNREAD and is closed into the outbox with its
exit odometer, its rack's row is updated and placed AT_UNLOAD or left QUEUED, the slot and the reader are free, and
a verdict that is not CLEAN lights the lamp for 80 tenths (R61, R60, R63, R65, R66). With the slot empty nothing
changes but the eye and the reader (R61). -/
def Obligations.ExitEyeClearClosesTheCheckUnread : Prop :=
  ∀ s : State, nobodyWaits s = true → turnsOff s .ex →
    (∀ k : ExitRecord, s.tunnel.slot = some k → k.readNumber = none →
      ∃ (t : State) (v : Verdict), exec (.filterTimeReached .ex) s = .next t
        ∧ v = verdictOf s.settings k.cls k.dose k.washTime { k.flags with exitUnread := true }
        ∧ t.outbox.queue = s.outbox.queue ++
            [{ serial := s.outbox.nextSerial, rack := k.rack, readNumber := none, cls := k.cls, entry := k.entry,
               exit := some k.exit, dose := k.dose, washTime := k.washTime, minRinse := k.minRinse, verdict := v,
               flags := { k.flags with exitUnread := true } }]
        ∧ t.tunnel =
            { list := s.tunnel.list, slot := none, lamp := if v = .clean then s.tunnel.lamp else .on 80 }
        ∧ OnlyWashed s t k.rack v s.outbox.nextSerial unloaded
        ∧ t.readers = { s.readers with exit := { s.readers.exit with attempt := none } }
        ∧ t.returns.enRoute = s.returns.enRoute
        ∧ t = { s with
            belt := t.belt, inputs := inputsTurned s .ex, readers := t.readers, tunnel := t.tunnel,
            pacing := t.pacing, registry := t.registry, outbox := t.outbox, returns := t.returns, tray := t.tray
            sup := t.sup })
    ∧ (s.tunnel.slot = none → Settled s →
      exec (.filterTimeReached .ex) s = .next
        { s with
          inputs := inputsTurned s .ex
          readers := { s.readers with exit := { s.readers.exit with attempt := none } } })

/-- The exit tag confirms the record in the check: it is closed as it stands with the verdict of its exposures, its
row is updated and placed AT_UNLOAD or left QUEUED, and a verdict that is not CLEAN lights the lamp (R57 case 1, R63,
R65, R66, R120). A record without a number, where the head does not carry the one read, and an EXTRA record take the
number read and the class of its row, and are closed so (R57 case 3, R62). -/
def Obligations.ExitReadConfirmsTheRecord : Prop :=
  ∀ (s : State) (a : Nat) (n : Rack) (k : ExitRecord),
    1 ≤ a → a ≤ 3 → s.readers.exit.attempt = some a → nobodyWaits s = true →
    s.tunnel.slot = some k → k.readNumber = none →
    (k.rack = some n ∧ k.flags.extra = false
      ∨ k.rack = none ∧ k.flags.extra = false ∧ (∀ h ∈ s.tunnel.list.head?, h.rack ≠ some n)
      ∨ k.flags.extra = true) →
    (k.rack ≠ some n ∨ k.flags.extra = true →
      ∀ w, row s n = some w → w.place ≠ .inTunnel ∧ w.place ≠ .admitting ∧ w.place ≠ .onReturn) →
    ∃ (t : State) (v : Verdict) (c : Option RackClass),
        exec (.readerAnswer .exit (digitChar a :: tagText n)) s = .next t
      ∧ c = (if k.rack = some n ∧ k.flags.extra = false then k.cls else (row s n).map Row.cls)
      ∧ v = verdictOf s.settings c k.dose k.washTime k.flags
      ∧ t.outbox.queue = s.outbox.queue ++
          [{ serial := s.outbox.nextSerial, rack := some n, readNumber := none, cls := c, entry := k.entry,
             exit := some k.exit, dose := k.dose, washTime := k.washTime, minRinse := k.minRinse, verdict := v,
             flags := k.flags }]
      ∧ t.tunnel = { list := s.tunnel.list, slot := none, lamp := if v = .clean then s.tunnel.lamp else .on 80 }
      ∧ OnlyWashed s t (some n) v s.outbox.nextSerial unloaded
      ∧ t.readers = { s.readers with exit := { s.readers.exit with attempt := none } }
      ∧ t.returns.enRoute =
          (if (k.rack ≠ some n ∨ k.flags.extra = true) ∧ row s n = none then
            s.returns.enRoute.filter (fun e => e.rack != some n)
          else s.returns.enRoute)
      ∧ t = { s with
          belt := t.belt, readers := t.readers, tunnel := t.tunnel,
          pacing := t.pacing, registry := t.registry, outbox := t.outbox, returns := t.returns, tray := t.tray
          sup := t.sup }

/-- The exit tag names the head and not the record in the check: the record is closed as MISSING and its rack placed
LOST, and then the head is closed with REPAIRED, an exit odometer of this event and the verdict UNKNOWN, its rack
AT_UNLOAD and the lamp lit; EXIT_MISSING carries the first one's rack (R57 case 2, R58, R64, R65). -/
def Obligations.ExitReadOfTheHeadRepairs : Prop :=
  ∀ (s : State) (a : Nat) (n : Rack) (k : ExitRecord) (h : TunnelRecord) (rest : List TunnelRecord),
    1 ≤ a → a ≤ 3 → s.readers.exit.attempt = some a → nobodyWaits s = true →
    s.tunnel.slot = some k → k.rack ≠ some n → k.readNumber = none → k.flags.extra = false →
    s.tunnel.list = h :: rest → h.rack = some n →
    ∃ (t u : State), exec (.readerAnswer .exit (digitChar a :: tagText n)) s = .next t
      ∧ t.outbox.queue = s.outbox.queue ++
          [{ serial := s.outbox.nextSerial, rack := k.rack, readNumber := none, cls := k.cls, entry := k.entry,
             exit := none, dose := k.dose, washTime := k.washTime, minRinse := k.minRinse, verdict := .unknown,
             flags := { k.flags with missing := true } },
           { serial := if s.outbox.nextSerial < 999999 then s.outbox.nextSerial + 1 else 1, rack := some n,
             readNumber := none, cls := h.cls, entry := some h.entry, exit := some s.belt.odometer, dose := h.dose,
             washTime := h.washTime, minRinse := h.minRinse, verdict := .unknown,
             flags := { h.flags with repaired := true } }]
      ∧ t.tunnel = { list := rest, slot := none, lamp := .on 80 }
      ∧ Raised s t .exitMissing s.belt.odometer k.rack
      ∧ OnlyWashed s u k.rack .unknown s.outbox.nextSerial (fun _ => .lost)
      ∧ OnlyWashed u t (some n) .unknown (if s.outbox.nextSerial < 999999 then s.outbox.nextSerial + 1 else 1)
          (fun _ => .atUnload)
      ∧ t.readers = { s.readers with exit := { s.readers.exit with attempt := none } }
      ∧ t.returns.enRoute = s.returns.enRoute
      ∧ t = { s with
          belt := t.belt, readers := t.readers, tunnel := t.tunnel,
          pacing := t.pacing, registry := t.registry, outbox := t.outbox, returns := t.returns, tray := t.tray
          sup := t.sup }

/-- The exit tag names a rack n that is neither the record's m nor the head's, and that no collection holds: the
record keeps m and is closed with SWAP, the read number n and the verdict UNKNOWN; m is placed LOST, the record
counts for n, which is placed AT_UNLOAD or left QUEUED, EXIT_SWAP carries n and the lamp is lit (R59, R65, R107,
R120). -/
def Obligations.ExitReadOfAnotherRackSwaps : Prop :=
  ∀ (s : State) (a : Nat) (m n : Rack) (k : ExitRecord),
    1 ≤ a → a ≤ 3 → s.readers.exit.attempt = some a → nobodyWaits s = true →
    s.tunnel.slot = some k → k.rack = some m → m ≠ n → k.flags.extra = false →
    (∀ h ∈ s.tunnel.list.head?, h.rack ≠ some n) →
    (∃ w, row s n = some w ∧ w.place ≠ .inTunnel ∧ w.place ≠ .admitting ∧ w.place ≠ .onReturn) →
    ∃ (t u : State), exec (.readerAnswer .exit (digitChar a :: tagText n)) s = .next t
      ∧ t.outbox.queue = s.outbox.queue ++
          [{ serial := s.outbox.nextSerial, rack := some m, readNumber := some n, cls := k.cls, entry := k.entry,
             exit := some k.exit, dose := k.dose, washTime := k.washTime, minRinse := k.minRinse,
             verdict := .unknown, flags := { k.flags with swap := true } }]
      ∧ t.tunnel = { list := s.tunnel.list, slot := none, lamp := .on 80 }
      ∧ Raised s t .exitSwap s.belt.odometer (some n)
      ∧ OnlyPlaced s u (some m) .lost
      ∧ OnlyWashed u t (some n) .unknown s.outbox.nextSerial unloaded
      ∧ t.readers = { s.readers with exit := { s.readers.exit with attempt := none } }
      ∧ t.returns.enRoute = s.returns.enRoute
      ∧ t = { s with
          belt := t.belt, readers := t.readers, tunnel := t.tunnel,
          pacing := t.pacing, registry := t.registry, outbox := t.outbox, returns := t.returns, tray := t.tray
          sup := t.sup }

/-! ## Verdicts (chapter 5) -/

/-- The verdict: UNKNOWN exactly with SWAP, EXTRA, MISSING, REPAIRED or RESET; otherwise CLEAN exactly when dose and
wash time reach what the class requires, with neither DOOR nor HALTED, and no STALLED while STALLREJ is 1; otherwise
SHORT. A record without a class is held to the greatest of the four requirements, each on its own (R85, R86). -/
def Obligations.VerdictFollowsTheRequirements : Prop :=
  ∀ (c : Settings) (cls : Option RackClass) (dose wash : Nat) (f : Flags),
    (verdictOf c cls dose wash f = .unknown ↔
      f.swap = true ∨ f.extra = true ∨ f.missing = true ∨ f.repaired = true ∨ f.reset = true)
    ∧ (verdictOf c cls dose wash f = .clean ↔
      f.swap = false ∧ f.extra = false ∧ f.missing = false ∧ f.repaired = false ∧ f.reset = false
        ∧ requiredDose c cls ≤ dose ∧ requiredWash c cls ≤ wash ∧ f.door = false ∧ f.halted = false
        ∧ (f.stalled = false ∨ paramGet c .stallrej ≠ 1))
    ∧ (∀ k : RackClass, requiredDose c (some k) ≤ requiredDose c none
        ∧ requiredWash c (some k) ≤ requiredWash c none)
    ∧ (∃ k : RackClass, requiredDose c none = requiredDose c (some k))
    ∧ (∃ k : RackClass, requiredWash c none = requiredWash c (some k))

/-- The credit of a temperature, over any table that the card can hold: 0 below T1, C6 from T6 on, and between two
points the lower point's credit plus the truncated share of the rise; it never exceeds 255 (R75). -/
def Obligations.CreditFollowsTheTable : Prop :=
  ∀ (c : Settings) (t : Nat), creditTableValid c = true → paramGet c .cc6 ≤ 255 →
    (t < paramGet c .ct1 → credit c t = 0)
    ∧ (paramGet c .ct6 ≤ t → credit c t = paramGet c .cc6)
    ∧ (∀ b ∈ [(Param.ct1, Param.cc1, Param.ct2, Param.cc2), (.ct2, .cc2, .ct3, .cc3), (.ct3, .cc3, .ct4, .cc4),
        (.ct4, .cc4, .ct5, .cc5), (.ct5, .cc5, .ct6, .cc6)],
      paramGet c b.1 ≤ t → t < paramGet c b.2.2.1 →
        credit c t = paramGet c b.2.1 +
          (paramGet c b.2.2.2 - paramGet c b.2.1) * (t - paramGet c b.1) / (paramGet c b.2.2.1 - paramGet c b.1))
    ∧ credit c t ≤ 255

/-! ## Rinse monitor (chapter 5) -/

/-- A period starts: its length is POLL as it stands, and the rinse head is polled; nothing else changes (R71). That
a period which starts while a poll is still in progress ends that poll without a sample is the model's choice (log
entry 6): R71 says that it cannot arise. -/
def Obligations.PollPeriodTakesPoll : Prop :=
  ∀ (s : State) (period : Nat) (phase : PollPhase), s.rinse.cycle = .started period phase →
    exec .pollPeriodStart s = .next
      { s with rinse := { s.rinse with cycle := .started (par s .poll) .rinse } }

/-- A good answer of the rinse head: the sample is taken, the RINSE cause follows the credit and TRESUME, in RUN the
speed demand is VNOM times c(T) over c(TREF) within VMIN to VNOM, and on a belt that runs at the start of the event
each record whose centre is in FINAL gains c(T) times k up to 60000 and lowers its minimum; on a stopped belt no
record changes. WARMING becomes PARKED at TREADY with a wash sample of WFLOOR and an empty line, and PARKED becomes
WARMING below TRESUME. An answer with another letter changes nothing (R72, R73, R77, R78, R81, R83, R159). -/
def Obligations.RinseSampleAccruesAndSetsTheSpeed : Prop :=
  ∀ (s : State) (period : Nat), s.rinse.cycle = .started period .rinse →
    (∀ (hi lo check : Byte), 0x52 + hi + lo + check = 0 → 256 * hi.toNat + lo.toNat ≤ 1200 →
      ∃ (t : State) (T : Nat), exec (.probeAnswer [0x52, hi, lo, check]) s = .next t
        ∧ T = 256 * hi.toNat + lo.toNat
        ∧ t.rinse =
            { cycle := .started period .wash
              rinse := { s.rinse.rinse with
                latest := .temp T
                consecutive := 0
                cause :=
                  if credit s.settings T = 0 then some .temperature
                  else if par s .tresume ≤ T then none
                  else if s.rinse.rinse.cause.isSome then some .temperature
                  else none }
              wash := s.rinse.wash }
        ∧ t.pacing.speedDemand =
            (if s.sup.mode = .run then
              min (max (par s .vnom * credit s.settings T / credit s.settings (par s .tref)) (par s .vmin))
                (par s .vnom)
            else s.pacing.speedDemand)
        ∧ (s.sup.mode = .parked → nobodyWaits s = true →
            t.sup.mode = if T < par s .tresume then .warming else .parked)
        ∧ (s.sup.mode = .warming → nobodyWaits s = true →
            (∀ W, s.rinse.wash.latest = .temp W →
              t.sup.mode =
                if par s .tready ≤ T ∧ par s .wfloor ≤ W ∧ lineEmpty s = true then .parked else .warming)
            ∧ ((∀ W, s.rinse.wash.latest ≠ .temp W) → t.sup.mode = .warming))
        ∧ t.tunnel =
            (if s.pacing.beltRun then
              { s.tunnel with
                list := s.tunnel.list.map fun r =>
                  if inFinal s r then
                    { r with
                      dose := min 60000 (r.dose + credit s.settings T * (period / 100))
                      minRinse := some (match r.minRinse with | none => T | some m => min m T) }
                  else r }
            else s.tunnel)
        ∧ t = { s with
            belt := t.belt, stage := t.stage, tunnel := t.tunnel, rinse := t.rinse, pacing := t.pacing,
            registry := t.registry, returns := t.returns, tray := t.tray, sup := t.sup })
    ∧ ∀ bytes : List Byte, bytes.head? ≠ some 0x52 → exec (.probeAnswer bytes) s = .next s

/-- The wait on a poll runs out a third time in a row: the head has a probe fault. RINSE_PROBE or WASH_PROBE is
raised with no rack, its cause is set with the reason probe, the belt is off, and PARKED becomes WARMING. A rinse
fault on a running belt flags PROBE_GAP on the records in FINAL, and a wash fault flags none (R72 to R74, R78, R83,
R84, R159). -/
def Obligations.ThirdInvalidSampleIsAProbeFault : Prop :=
  (∀ (s : State) (period : Nat), s.rinse.cycle = .started period .rinse → s.rinse.rinse.consecutive = 2 →
    ∃ t, exec .probeWaitExpiry s = .next t
      ∧ Raised s t .rinseProbe s.belt.odometer none
      ∧ t.rinse =
          { cycle := .started period .wash
            rinse := { latest := .invalid, consecutive := 3, total := min 65535 (s.rinse.rinse.total + 1),
                       cause := some .probe }
            wash := s.rinse.wash }
      ∧ t.pacing.beltRun = false
      ∧ (s.sup.mode = .parked → t.sup.mode = .warming)
      ∧ t.tunnel =
          (if s.pacing.beltRun then
            { s.tunnel with
              list := s.tunnel.list.map fun r =>
                if inFinal s r then { r with flags := { r.flags with probeGap := true } } else r }
          else s.tunnel)
      ∧ t = { s with
          belt := t.belt, stage := t.stage, tunnel := t.tunnel, rinse := t.rinse, pacing := t.pacing,
          registry := t.registry, returns := t.returns, tray := t.tray, sup := t.sup })
  ∧ ∀ (s : State) (period : Nat), s.rinse.cycle = .started period .wash → s.rinse.wash.consecutive = 2 →
    ∃ t, exec .probeWaitExpiry s = .next t
      ∧ Raised s t .washProbe s.belt.odometer none
      ∧ t.rinse =
          { cycle := .started period .quiet
            rinse := s.rinse.rinse
            wash := { latest := .invalid, consecutive := 3, total := min 65535 (s.rinse.wash.total + 1),
                      cause := some .probe } }
      ∧ t.pacing.beltRun = false
      ∧ (s.sup.mode = .parked → t.sup.mode = .warming)
      ∧ t = { s with
          belt := t.belt, stage := t.stage, rinse := t.rinse, pacing := t.pacing, registry := t.registry,
          returns := t.returns, tray := t.tray, sup := t.sup }

/-- A good answer of the wash head, in any mode and whether or not the belt runs: at WFLOOR or above k is added to
the wash time of the records in WASH, up to 65535, and below it to none; the WASH cause follows WFLOOR and WRESUME,
and a PARKED line becomes WARMING below WFLOOR (R73, R80, R84, R159). -/
def Obligations.WashSampleAccrues : Prop :=
  ∀ (s : State) (period : Nat) (hi lo check : Byte), s.rinse.cycle = .started period .wash →
    0x57 + hi + lo + check = 0 → 256 * hi.toNat + lo.toNat ≤ 1200 →
    ∃ (t : State) (T : Nat), exec (.probeAnswer [0x57, hi, lo, check]) s = .next t
      ∧ T = 256 * hi.toNat + lo.toNat
      ∧ t.rinse =
          { cycle := .started period .quiet
            rinse := s.rinse.rinse
            wash := { s.rinse.wash with
              latest := .temp T
              consecutive := 0
              cause :=
                if par s .wresume ≤ T then none
                else if T < par s .wfloor then some .temperature
                else if s.rinse.wash.cause.isSome then some .temperature
                else none } }
      ∧ t.tunnel =
          (if par s .wfloor ≤ T then
            { s.tunnel with
              list := s.tunnel.list.map fun r =>
                if inWash s r then { r with washTime := min 65535 (r.washTime + period / 100) } else r }
          else s.tunnel)
      ∧ (s.sup.mode = .parked → nobodyWaits s = true →
          t.sup.mode = if T < par s .wfloor then .warming else .parked)
      ∧ (s.sup.mode = .warming → t.sup.mode = .warming)
      ∧ t = { s with
          belt := t.belt, stage := t.stage, tunnel := t.tunnel, rinse := t.rinse, pacing := t.pacing,
          registry := t.registry, returns := t.returns, tray := t.tray, sup := t.sup }

/-! ## Tag readers (section 2.4) -/

/-- An answer with another echo is discarded and changes nothing. One with the awaited echo that is not the tag of a
rack 001 to 240 with its check digit fails attempt 1 or 2: the next attempt begins and the failure count rises, and
nothing else changes (R22, R23, R25). -/
def Obligations.AnswersAreJudgedByEchoAndCheckDigit : Prop :=
  ∀ (r : Reader) (s : State) (a : Nat) (echo : Char) (rest : Text), (reader s r).attempt = some a →
    (echo ≠ digitChar a → a ≤ 3 → exec (.readerAnswer r (echo :: rest)) s = .next s)
    ∧ (echo = digitChar a → 1 ≤ a → a < 3 → (∀ n : Rack, rest ≠ tagText n) →
      ∃ t, exec (.readerAnswer r (echo :: rest)) s = .next t
        ∧ reader t r = { attempt := some (a + 1), failures := min 65535 ((reader s r).failures + 1) }
        ∧ (∀ q : Reader, q ≠ r → reader t q = reader s q)
        ∧ t = { s with readers := t.readers })

/-- 400 ms pass without an answer: attempt 1 or 2 is followed by the next, its request Q and its digit, with one
failure more; after attempt 3 the read ends UNREAD, and at the entry stop, where the mode admits and ADMITUNREAD is
0, the rack waits with the permanent reason UNREAD (R22, R25, R31, R33, R34). -/
def Obligations.AttemptTimeoutFailsTheAttempt : Prop :=
  (∀ (r : Reader) (s : State) (a : Nat), (reader s r).attempt = some a → a < 3 →
    ∃ t, exec (.attemptTimeout r) s = .next t
      ∧ readRequest (reader t r) = some ['Q', digitChar (a + 1)]
      ∧ reader t r = { attempt := some (a + 1), failures := min 65535 ((reader s r).failures + 1) }
      ∧ (∀ q : Reader, q ≠ r → reader t q = reader s q)
      ∧ t = { s with readers := t.readers })
  ∧ ∀ s : State, Settled s → s.readers.entry.attempt = some 3 → s.stage = .reading →
    s.sup.mode = .run ∨ s.sup.mode = .parked → s.sup.draining = false → par s .admitUnread = 0 →
    exec (.attemptTimeout .entry) s = .next
      { s with
        readers := { s.readers with
          entry := { attempt := none, failures := min 65535 (s.readers.entry.failures + 1) } }
        stage := .waiting .unread .unread }

/-! ## Return dispatcher (chapter 9) -/

/-- The RETURN read of an enrolled rack that is not retired and that no collection or stop outcome holds: the target
is the first station after the class's pointer that takes it, the pointer moves there, and with no such station the
target is the return end and the pointer stays; the entry joins the list at its tail with a fresh deadline, the rack
is ON_RETURN, and a rewash mark is cleared with REWASH_SKIPPED. A retired rack and a vacant one go to the return end
under their numbers, and a QUEUED one and an UNREAD one without. An entry that joins a list of 24 loses the oldest:
RETURN_LOST with its rack or none, its rack LOST (R137, R138, R139). -/
def Obligations.ReturnReadDispatchesRoundRobin : Prop :=
  (∀ (s : State) (a : Nat) (n : Rack) (w : Row),
    1 ≤ a → a ≤ 3 → s.readers.ret.attempt = some a → Settled s → nobodyWaits s = true →
    row s n = some w → w.retired = false →
    w.place ≠ .inTunnel → w.place ≠ .atExit → w.place ≠ .admitting → w.place ≠ .onReturn → w.place ≠ .queued →
    s.returns.enRoute.length < 24 →
    ∃ (t : State) (target : Option Station), exec (.readerAnswer .ret (digitChar a :: tagText n)) s = .next t
      ∧ (∀ d : Fin 4, stationTakes s w (pointerOf s.returns.pointers w.cls + 1 + d) = true →
          (∀ j : Fin 4, j < d → stationTakes s w (pointerOf s.returns.pointers w.cls + 1 + j) = false) →
          target = some (pointerOf s.returns.pointers w.cls + 1 + d)
            ∧ pointerOf t.returns.pointers w.cls = pointerOf s.returns.pointers w.cls + 1 + d)
      ∧ ((∀ d : Fin 4, stationTakes s w d = false) → target = none ∧ t.returns.pointers = s.returns.pointers)
      ∧ (∀ c : RackClass, c ≠ w.cls → pointerOf t.returns.pointers c = pointerOf s.returns.pointers c)
      ∧ t.returns.enRoute = s.returns.enRoute ++
          [{ rack := some n, target := target, lastEye := 0, deadline := par s .retleg * 10 }]
      ∧ (∀ m : Rack, row t m =
          if m = n then some { w with place := .onReturn, rewashDue := false } else row s m)
      ∧ (if w.rewashDue then Raised s t .rewashSkipped s.belt.odometer (some n) else t.sup = s.sup)
      ∧ t = { s with
          readers := { s.readers with ret := { s.readers.ret with attempt := none } }
          registry := t.registry
          returns := { s.returns with enRoute := t.returns.enRoute, pointers := t.returns.pointers }
          sup := { s.sup with alerts := t.sup.alerts, alertOutput := t.sup.alertOutput } })
  ∧ (∀ (s : State) (a : Nat) (n : Rack),
    1 ≤ a → a ≤ 3 → s.readers.ret.attempt = some a → Settled s → nobodyWaits s = true →
    (∀ w, row s n = some w → w.retired = true ∧ w.place ≠ .queued ∨ w.place = .queued) →
    (∀ w, row s n = some w →
      w.place ≠ .inTunnel ∧ w.place ≠ .atExit ∧ w.place ≠ .admitting ∧ w.place ≠ .onReturn) →
    s.returns.enRoute.length < 24 →
    ∃ t, exec (.readerAnswer .ret (digitChar a :: tagText n)) s = .next t
      ∧ (∀ w, row s n = some w → w.place = .queued →
          t.registry = s.registry
          ∧ t.returns.enRoute = s.returns.enRoute ++
              [{ rack := none, target := none, lastEye := 0, deadline := par s .retleg * 10 }])
      ∧ (∀ w, row s n = some w → w.place ≠ .queued →
          OnlyPlaced s t (some n) .onReturn
          ∧ t.returns.enRoute = s.returns.enRoute ++
              [{ rack := some n, target := none, lastEye := 0, deadline := par s .retleg * 10 }])
      ∧ (row s n = none →
          t.registry = s.registry
          ∧ t.returns.enRoute = s.returns.enRoute.filter (fun e => e.rack != some n) ++
              [{ rack := some n, target := none, lastEye := 0, deadline := par s .retleg * 10 }])
      ∧ t = { s with
          readers := { s.readers with ret := { s.readers.ret with attempt := none } }
          registry := t.registry
          returns := { s.returns with enRoute := t.returns.enRoute } })
  ∧ (∀ s : State, s.readers.ret.attempt = some 3 → Settled s → nobodyWaits s = true →
    s.returns.enRoute.length < 24 →
    exec (.attemptTimeout .ret) s = .next
      { s with
        readers := { s.readers with ret := { attempt := none, failures := min 65535 (s.readers.ret.failures + 1) } }
        returns := { s.returns with
          enRoute := s.returns.enRoute ++
            [{ rack := none, target := none, lastEye := 0, deadline := par s .retleg * 10 }] } })
  ∧ ∀ (s : State) (e : EnRoute) (rest : List EnRoute), s.readers.ret.attempt = some 3 → Settled s →
    nobodyWaits s = true → s.returns.enRoute = e :: rest → rest.length = 23 →
    ∃ t, exec (.attemptTimeout .ret) s = .next t
      ∧ Raised s t .returnLost s.belt.odometer e.rack
      ∧ OnlyPlaced s t e.rack .lost
      ∧ t = { s with
          readers := { s.readers with ret := { attempt := none, failures := min 65535 (s.readers.ret.failures + 1) } }
          registry := t.registry
          returns := { s.returns with
            enRoute := rest ++ [{ rack := none, target := none, lastEye := 0, deadline := par s .retleg * 10 }] }
          sup := { s.sup with alerts := t.sup.alerts, alertOutput := t.sup.alertOutput } }

/-- The diverter eye of station k+1 (eyes count from 1) matches the oldest entry that has passed the eye before. At
its target the entry goes, its rack is AT_STATION, and the diverter is pulsed for 6 tenths unless the line is in
HALT; any other entry moves on with a fresh deadline; with no such entry RETURN_STRAY is raised and nothing else
changes (R140, R141). -/
def Obligations.DiverterEyesSortTheRacks : Prop :=
  ∀ (s : State) (k : Station), turnsOn s (diverterEye k) →
    (∀ (before after : List EnRoute) (e : EnRoute), s.returns.enRoute = before ++ e :: after →
      (∀ x ∈ before, x.lastEye ≠ k.val) → e.lastEye = k.val →
      (e.target = some k →
        ∃ t, exec (.filterTimeReached (diverterEye k)) s = .next t
          ∧ OnlyPlaced s t e.rack (.atStation k)
          ∧ t = { s with
              inputs := inputsTurned s (diverterEye k)
              registry := t.registry
              returns := { s.returns with
                enRoute := before ++ after
                diverters :=
                  if s.sup.mode.isHalt then s.returns.diverters else s.returns.diverters.set k (.pulsing 6) } })
      ∧ (e.target ≠ some k →
        exec (.filterTimeReached (diverterEye k)) s = .next
          { s with
            inputs := inputsTurned s (diverterEye k)
            returns := { s.returns with
              enRoute := before ++ { e with lastEye := k.val + 1, deadline := par s .retleg * 10 } :: after } }))
    ∧ ((∀ x ∈ s.returns.enRoute, x.lastEye ≠ k.val) →
      ∃ t, exec (.filterTimeReached (diverterEye k)) s = .next t
        ∧ Raised s t .returnStray s.belt.odometer none
        ∧ t = { s with
            inputs := inputsTurned s (diverterEye k)
            sup := { s.sup with alerts := t.sup.alerts, alertOutput := t.sup.alertOutput } })

/-- The return end eye becomes blocked: the oldest entry with last-eye 4 is removed and its rack, if enrolled, is
placed AT_RETURN_END; with none RETURN_STRAY is raised with no rack. Its clear changes nothing (R142). -/
def Obligations.ReturnEndEyeTakesTheOldestEntry : Prop :=
  ∀ s : State,
    (turnsOn s .re → ∀ (before after : List EnRoute) (e : EnRoute), s.returns.enRoute = before ++ e :: after →
      (∀ x ∈ before, x.lastEye ≠ 4) → e.lastEye = 4 →
      ∃ t, exec (.filterTimeReached .re) s = .next t
        ∧ OnlyPlaced s t e.rack .atReturnEnd
        ∧ t = { s with
            inputs := inputsTurned s .re
            registry := t.registry
            returns := { s.returns with enRoute := before ++ after } })
    ∧ (turnsOn s .re → (∀ x ∈ s.returns.enRoute, x.lastEye ≠ 4) →
      ∃ t, exec (.filterTimeReached .re) s = .next t
        ∧ Raised s t .returnStray s.belt.odometer none
        ∧ t = { s with
            inputs := inputsTurned s .re
            sup := { s.sup with alerts := t.sup.alerts, alertOutput := t.sup.alertOutput } })
    ∧ (turnsOff s .re → exec (.filterTimeReached .re) s = .next { s with inputs := inputsTurned s .re })

/-! ## Timers -/

/-- One 0.1 s step in which the encoder-stall timer does not reach 30. The congestion timer rises to CONGD times 10
while the condition holds and is 0 otherwise, the flag being set exactly at the limit. The encoder-stall timer rises
by one. The lamp, diverter and hold timers fall by one, and with the last tenth the lamp and the diverter are off and
the belt runs, its hold count kept. The stall timer falls by one, on below 0 down to -32768, and its step from 1 to 0
raises TUNNEL_STALL and puts STALLED on every tunnel record. While the return belt runs the deadlines fall by one, and
those that the last tenth brings to 0 are removed, each raising RETURN_LOST with its rack or none and its rack LOST
(R8, R66, R102, R141, R143, R149, R151). That this step makes those ends, and that the one of several entries removed
last is the youngest, is the model's choice, log entry 5, as is a stall timer whose last tenth TUNNEL_STALL has taken
already, `.reached`, which this step brings to 0. -/
def Obligations.TenthStepCountsEveryTimer : Prop :=
  ∀ (s : State) (lost : List EnRoute), (∀ n, s.belt.timer = .running n → n + 1 < 30) →
    lost = (if s.returns.returnBelt then s.returns.enRoute.filter fun e => decide (e.deadline ≤ 1) else []) →
    ∃ t, exec .congestionTimerStep s = .next t
    ∧ t.tray.congestionTimer =
        (if congestionCondition s then min (par s .congd * 10) (s.tray.congestionTimer + 1) else 0)
    ∧ (t.tray.congested = true ↔ t.tray.congestionTimer = par s .congd * 10)
    ∧ t.tray.lineHeld = s.tray.lineHeld
    ∧ (∀ b : TrayBelt, trayChannel t b = { trayChannel s b with
        state :=
          match (trayChannel s b).state with
          | .held n => if n ≤ 1 then .running else .held (n - 1)
          | other => other })
    ∧ t.pacing = { s.pacing with
        stallTimer :=
          match s.pacing.stallTimer with
          | .counting c => .counting (max (-32768) (c - 1))
          | .reached => .counting 0
          | .idle => .idle }
    ∧ (if s.pacing.stallTimer = .counting 1 then
        Raised s t .tunnelStall s.belt.odometer none
        ∧ t.tunnel.list = s.tunnel.list.map fun r => { r with flags := { r.flags with stalled := true } }
      else alert t .tunnelStall = alert s .tunnelStall ∧ t.tunnel.list = s.tunnel.list)
    ∧ t.returns.enRoute =
        (if s.returns.returnBelt then
          (s.returns.enRoute.filter fun e => decide (1 < e.deadline)).map fun e =>
            { e with deadline := e.deadline - 1 }
        else s.returns.enRoute)
    ∧ (∀ m : Rack, row t m =
        if lost.any fun e => e.rack == some m then (row s m).map fun w => { w with place := .lost } else row s m)
    ∧ (match lost.getLast? with
        | none => alert t .returnLost = alert s .returnLost
        | some e => ∃ a, alert t .returnLost = some a
            ∧ a.count = min 255 ((alert s .returnLost).elim 0 (fun b => b.count) + lost.length)
            ∧ a.firstOdometer = (alert s .returnLost).elim s.belt.odometer (fun b => b.firstOdometer)
            ∧ a.lastRack = e.rack)
    ∧ (∀ k : AlertKind, k ≠ .tunnelStall → k ≠ .returnLost → alert t k = alert s k)
    ∧ (∀ k : Station, t.returns.diverters[k] =
        match s.returns.diverters[k] with
        | .pulsing n => if n ≤ 1 then .off else .pulsing (n - 1)
        | .off => .off)
    ∧ t.belt = { s.belt with
        timer :=
          match s.belt.timer with
          | .running n => .running (n + 1)
          | .idle => .idle
          | .expired => .expired }
    ∧ t.tunnel = { s.tunnel with
        list := t.tunnel.list
        lamp :=
          match s.tunnel.lamp with
          | .on n => if n ≤ 1 then .off else .on (n - 1)
          | .off => .off }
    ∧ t = { s with
        belt := t.belt, tunnel := t.tunnel, pacing := t.pacing, tray := t.tray, registry := t.registry
        returns := { s.returns with enRoute := t.returns.enRoute, diverters := t.returns.diverters }
        sup := { s.sup with alerts := t.sup.alerts, alertOutput := t.sup.alertOutput } }

/-- The timers run out at the commands named for them, each in its timer's last tenth. The stall timer steps from 1
to 0: TUNNEL_STALL with no rack and STALLED on every tunnel record, not on the one in the check (R102). The lamp goes
off (R66). One diverter goes off at the end of its pulse (R141). A HELD belt runs with its hold count kept (R151). An
en-route entry is lost while the return belt runs: removed, RETURN_LOST with its rack or none, its rack LOST (R143).
That these commands take the last tenth, the stall timer standing then as `.reached`, is the model's choice, log
entry 5. -/
def Obligations.TimersRunOut : Prop :=
  (∀ s : State, s.pacing.stallTimer = .counting 1 →
    ∃ t, exec .tunnelStall s = .next t
      ∧ Raised s t .tunnelStall s.belt.odometer none
      ∧ t = { s with
          pacing := { s.pacing with stallTimer := .reached }
          tunnel := { s.tunnel with
            list := s.tunnel.list.map fun r => { r with flags := { r.flags with stalled := true } } }
          sup := { s.sup with alerts := t.sup.alerts, alertOutput := t.sup.alertOutput } })
  ∧ (∀ (s : State) (n : Nat), s.tunnel.lamp = .on n → n ≤ 1 →
    exec .rejectLampTimeout s = .next { s with tunnel := { s.tunnel with lamp := .off } })
  ∧ (∀ (s : State) (k : Station) (n : Nat), s.returns.diverters[k] = .pulsing n → n ≤ 1 →
    ∃ t, exec (.diverterPulseEnd k) s = .next t
      ∧ t.returns.diverters[k] = .off ∧ (∀ j : Station, j ≠ k → t.returns.diverters[j] = s.returns.diverters[j])
      ∧ t = { s with returns := { s.returns with diverters := t.returns.diverters } })
  ∧ (∀ (s : State) (b : TrayBelt) (n : Nat), (trayChannel s b).state = .held n → n ≤ 1 →
    ∃ t, exec (.holdTimerExpiry b) s = .next t
      ∧ trayChannel t b = { trayChannel s b with state := .running }
      ∧ trayChannel t (otherBelt b) = trayChannel s (otherBelt b)
      ∧ t = { s with tray := { s.tray with north := t.tray.north, south := t.tray.south } })
  ∧ ∀ (s : State) (before after : List EnRoute) (e : EnRoute), s.returns.enRoute = before ++ e :: after →
    e.deadline ≤ 1 → s.returns.returnBelt = true →
    ∃ t, exec (.deadlineExpiry before.length) s = .next t
      ∧ Raised s t .returnLost s.belt.odometer e.rack
      ∧ OnlyPlaced s t e.rack .lost
      ∧ t = { s with
          registry := t.registry
          returns := { s.returns with enRoute := before ++ after }
          sup := { s.sup with alerts := t.sup.alerts, alertOutput := t.sup.alertOutput } }

/-! ## Starts and the settings store (chapters 7 and 11) -/

/-- Power-up: the outbox is empty and the next wash serial is the stored one plus 1000, less 999999 where the sum
exceeds it, a stored serial outside 1 to 999999 counting as 1, so that it lies from 1 to 999999; the serial is the
one of the store as it stands, whole or half-written (log entry 2), which power-up leaves alone; and no load completion
changes the next serial, a bad image raising SETTINGS_DEFAULT (R114). -/
def Obligations.PowerUpSkipsTheSerial : Prop :=
  (∀ (rate : LinkRate) (address : Nat) (levels : Vector Bool 20) (s : State),
    ∃ t, exec (.powerUp rate address levels) s = .next t
      ∧ t.outbox.queue = []
      ∧ 1 ≤ t.outbox.nextSerial ∧ t.outbox.nextSerial ≤ 999999
      ∧ t.store = s.store
      ∧ (∀ n : Nat, (s.store = .mixed n ∨ ∃ i check, s.store = .whole i check ∧ i.serial = n) →
          (1 ≤ n ∧ n ≤ 998999 → t.outbox.nextSerial = n + 1000)
          ∧ (998999 < n ∧ n ≤ 999999 → t.outbox.nextSerial = n + 1000 - 999999)
          ∧ (n = 0 ∨ 999999 < n → t.outbox.nextSerial = 1001)))
  ∧ ∀ (s : State) (kind : LoadKind), s.sup.storeOp = .loading kind →
    ∃ t, exec .loadCompletion s = .next t ∧ t.outbox = s.outbox
      ∧ (goodImage? s.store = none → Raised s t .settingsDefault s.belt.odometer none)

/-- Power-up: every block takes its power-up state, which is the one after reset; the store is what it was, the rate
and the address are read, and every input is filtered inactive with its timer running where its level reads active
under the factory polarity (R18, R158, R172). -/
def Obligations.PowerUpStartsEveryBlock : Prop :=
  ∀ (rate : LinkRate) (address : Nat) (levels : Vector Bool 20) (s : State),
    ∃ t, exec (.powerUp rate address levels) s = .next t
      ∧ t.sup.mode = .loading ∧ t.sup.storeOp = .loading .powerUp
      ∧ t.link = { State.reset.link with rate := rate, address := address }
      ∧ (∀ i : Input, channel t i =
          { level := levels[i.index], filtered := false,
            qualifying := levels[i.index] == factorySettings.pol[i.index] })
      ∧ t = { State.reset with
          inputs := t.inputs, link := t.link, store := s.store, freeIndex := s.freeIndex, pending := s.pending
          outbox := { queue := [], nextSerial := t.outbox.nextSerial } }

/-- The load completion: the store operation is NONE, a power-up load hands over the settings, the mask, the station
table and the rows of the image, or the factory values of a bad one, and the load of XR the parameters but the zone
table; the demand is VNOM, polling begins if it had not, and LOADING becomes WARMING, or HALT with cause ESTOP while
the ESTOP loop is active (R14, R88, R130, R158, R168). That a cycle which begins so is quiet, no head being polled
before the next POLL_PERIOD_START, is the model's choice, log entry 20. -/
def Obligations.LoadCompletionHandsTheSettingsOver : Prop :=
  ∀ (s : State) (kind : LoadKind), s.sup.storeOp = .loading kind →
    ∃ (t : State) (i : StoreImage), exec .loadCompletion s = .next t
      ∧ i = (goodImage? s.store).getD factoryImage
      ∧ t.sup.storeOp = .none
      ∧ (kind = .powerUp →
          t.settings = i.settings ∧ t.sup.mask = i.mask ∧ t.returns.stations = i.stations
          ∧ (s.stage = .empty ∨ s.stage = .reading → s.returns.enRoute = [] →
              ∀ m : Rack, row t m = i.rows[m].map rowLoaded))
      ∧ (kind = .lineReset →
          (∀ p : Param, paramGet t.settings p =
            if paramIsZone p then paramGet s.settings p else paramGet i.settings p)
          ∧ t.settings.pol = i.settings.pol ∧ t.settings.autoClass = i.settings.autoClass
          ∧ t.sup.mask = s.sup.mask ∧ t.returns.stations = s.returns.stations
          ∧ (nobodyWaits s = true → t.registry = s.registry))
      ∧ t.pacing.speedDemand = par t .vnom
      ∧ t.rinse = { s.rinse with
          cycle :=
            match s.rinse.cycle with
            | .notStarted => .started (par t .poll) .quiet
            | .started period phase => .started period phase }
      ∧ (s.sup.mode = .loading → t.sup.mode = if isActive s .es then .halt .estop else .warming)
      ∧ (s.sup.mode.isHalt = true → t.sup.mode = s.sup.mode)
      ∧ t.belt.forwardAcc = 0 ∧ t.belt.reverseAcc = 0 ∧ t.belt.odometer = s.belt.odometer
      ∧ (s.sup.mode = .loading ∨ s.sup.mode.isHalt = true ∨ nobodyWaits s = true →
          t.returns.enRoute = s.returns.enRoute)
      ∧ t.tunnel.slot = s.tunnel.slot
      ∧ t = { s with
          belt := t.belt, inputs := t.inputs, stage := t.stage, tunnel := t.tunnel, rinse := t.rinse,
          pacing := t.pacing, registry := t.registry, returns := t.returns, tray := t.tray, sup := t.sup,
          settings := t.settings }

/-- SV takes the image of the settings as they stand, the next wash serial among them, and the store holds neither
image until the save completion, its serial field being either the new image's or the one that stood there (log entry
2); with a store operation in progress it is refused with ER 3. At the save completion
the result is PASSED where the store reads back as the image and its check word, and otherwise FAILED with
SAVE_FAILED; the settings in use are not changed (R115, R170). -/
def Obligations.SavesWriteTheImageOfTheRequest : Prop :=
  (∀ s : State, linkQuiet s →
    (s.sup.storeOp = .none →
      ∃ serial : Nat, (serial = s.outbox.nextSerial ∨ serial = storedSerial s)
        ∧ exec (.sv []) s = .next
        (answered
          { s with
            store := .mixed serial
            freeIndex := s.freeIndex + 1
            sup := { s.sup with
              lastSave := .none
              storeOp := .saving
                { settings := s.settings, mask := s.sup.mask, stations := s.returns.stations,
                  rows := vectorMap (Option.map fun w : Row =>
                    { cls := w.cls, retired := w.retired, washCount := w.washCount }) s.registry
                  serial := s.outbox.nextSerial } } }
          "SV".toList (.ok [])))
    ∧ (s.sup.storeOp ≠ .none → exec (.sv []) s = .next (answered s "SV".toList (.error 3))))
  ∧ ∀ (s : State) (i : StoreImage) (found : StoreContents), s.sup.storeOp = .saving i →
    ∃ t, exec (.saveCompletion found) s = .next t
      ∧ t.store = found ∧ t.sup.storeOp = .none
      ∧ (found = .whole i (checkWord i) →
          t = { s with store := found, sup := { s.sup with storeOp := .none, lastSave := .passed } })
      ∧ (found ≠ .whole i (checkWord i) →
          Raised s t .saveFailed s.belt.odometer none
          ∧ t = { s with
              store := found
              sup := { s.sup with
                storeOp := .none, lastSave := .failed, alerts := t.sup.alerts,
                alertOutput := t.sup.alertOutput } })

/-- LD on a line at rest: refused with ER 3 during a store operation, and with ER 4 in LOADING or RUN or while
anything is tracked; otherwise the settings, the mask, the station table and every row are the image's, or the
factory's with SETTINGS_DEFAULT where the image is bad, the speed demand is clamped into the loaded range, and
neither the mode nor the outbox changes (R132, R168, R169). -/
def Obligations.LdLoadsALineAtRest : Prop :=
  ∀ s : State, linkQuiet s →
    (s.sup.storeOp ≠ .none → exec (.ld []) s = .next (answered s "LD".toList (.error 3)))
    ∧ (s.sup.storeOp = .none →
        s.sup.mode = .loading ∨ s.sup.mode = .run ∨ lineEmpty s = false ∨ s.returns.enRoute ≠ [] →
      exec (.ld []) s = .next (answered s "LD".toList (.error 4)))
    ∧ (s.sup.storeOp = .none → s.sup.mode ≠ .loading → s.sup.mode ≠ .run → lineEmpty s = true →
        s.returns.enRoute = [] → nobodyWaits s = true →
      ∃ (t : State) (i : StoreImage), exec (.ld []) s = .next t
        ∧ i = (goodImage? s.store).getD factoryImage
        ∧ t.settings = i.settings ∧ t.sup.mask = i.mask ∧ t.returns.stations = i.stations
        ∧ (∀ m : Rack, row t m = i.rows[m].map rowLoaded)
        ∧ t.pacing.speedDemand = min (max s.pacing.speedDemand (par t .vmin)) (par t .vnom)
        ∧ t.sup.mode = s.sup.mode ∧ t.sup.draining = s.sup.draining ∧ t.sup.runOn = s.sup.runOn
        ∧ (goodImage? s.store = none → Raised s t .settingsDefault s.belt.odometer none)
        ∧ ((goodImage? s.store).isSome → t.sup.alerts = s.sup.alerts)
        ∧ t.link = (answered s "LD".toList (.ok [])).link
        ∧ t = { s with
            belt := t.belt, inputs := t.inputs, pacing := t.pacing, registry := t.registry, returns := t.returns,
            tray := t.tray, sup := t.sup, link := t.link, settings := t.settings })

/-- XR in every state: each record of the tunnel and the check leaves as a wash record with RESET, the verdict
UNKNOWN and no exit odometer, and every block is reset: the mode is LOADING, the line empty, the belt and the
diverters off, every alert but OUTBOX_HIGH clear and no rack placed in a collection or QUEUED; the inputs, the
settings, the mask, the station table, the enrolments and the link counts are kept, and the last save result too
unless a save was ended (R15, R28, R44, R67, R88, R106, R131, R146, R156, R171, R182). That the speed demand between
this event and the load completion is VNOM in use is the model's choice, log entry 15. -/
def Obligations.XrResetsEveryBlock : Prop :=
  ∀ s : State, linkQuiet s →
    ∃ (t : State) (closed : List WashRecord), exec (.xr []) s = .next t
      ∧ t.outbox.queue = s.outbox.queue ++ closed
      ∧ closed.map (fun w => (w.rack, w.cls, w.dose, w.washTime)) =
          (s.tunnel.slot.toList.map fun k => (k.rack, k.cls, k.dose, k.washTime))
            ++ (s.tunnel.list.map fun r => (r.rack, r.cls, r.dose, r.washTime))
      ∧ (∀ w ∈ closed, w.flags.reset = true ∧ w.verdict = .unknown ∧ w.exit = none)
      ∧ t.tunnel = { list := [], slot := none, lamp := .off }
      ∧ t.stage = (if isActive s .ap then .reading else .empty)
      ∧ t.belt = { forwardAcc := 0, odometer := 0, reverseAcc := 0, reverseCount := 0, timer := .idle }
      ∧ t.rinse = { cycle := s.rinse.cycle, rinse := headAtStart, wash := headAtStart }
      ∧ t.pacing =
          { exitCause := isActive s .tf, doorCause := isActive s .d1 || isActive s .d2 || isActive s .d3,
            pauseCause := false, speedDemand := par s .vnom, beltRun := false, setPoint := 0, valveOpen := false,
            stallTimer := .idle, longestOverrun := s.pacing.longestOverrun }
      ∧ t.returns =
          { stations := s.returns.stations, enRoute := [], pointers := { plate := 3, cup := 3, cutlery := 3, tray := 3 },
            diverters := Vector.replicate 4 .off, returnBelt := false }
      ∧ t.sup.mode = .loading ∧ t.sup.draining = false ∧ t.sup.runOn = 0 ∧ t.sup.lineHeld = true
      ∧ t.sup.mask = s.sup.mask ∧ (∃ kind, t.sup.storeOp = .loading kind)
      ∧ (∀ k : AlertKind, k ≠ .outboxHigh → alert t k = none)
      ∧ (if 80 ≤ t.outbox.queue.length then ∃ e, alert t .outboxHigh = some e ∧ e.count = 1 ∧ e.lastRack = none
        else alert t .outboxHigh = none)
      ∧ (∀ m : Rack, (row t m).map Row.cls = (row s m).map Row.cls
          ∧ ∀ w, row t m = some w → w.place ≠ .queued ∧ w.place ≠ .admitting ∧ w.place ≠ .inTunnel
              ∧ w.place ≠ .atExit ∧ w.place ≠ .onReturn)
      ∧ t.tray =
          { north := { s.tray.north with state := .stoppedLine, holdCount := 0 }
            south := { s.tray.south with state := .stoppedLine, holdCount := 0 }
            lineHeld := true, congestionTimer := 0, congested := false }
      ∧ ((∀ i, s.sup.storeOp ≠ .saving i) → t.sup.lastSave = s.sup.lastSave)
      ∧ (∀ i, s.sup.storeOp = .saving i → t.sup.lastSave = .none)
      ∧ t.readers.entry = { s.readers.entry with attempt := if isActive s .ap then some 1 else none }
      ∧ t.readers.exit = { s.readers.exit with attempt := none }
      ∧ t.readers.ret = { s.readers.ret with attempt := none }
      ∧ t.link = (answered s "XR".toList (.ok [])).link
      ∧ t.inputs = s.inputs ∧ t.settings = s.settings ∧ t.store = s.store

/-! ## The supervisor link (chapter 12) -/

/-- A run of 97 characters without a CR counts one overlength line and leaves the buffer idle (R172). A complete
line that is not in the form of R173, or that carries this card's address and a wrong check, counts one bad check; one
with another address counts one other address, whatever its check. No such line changes anything else. A "*" may stand
in a field or be a character of the command: that the last three characters alone are the check of such a line, so
that it is in the form and the earlier "*" is among the characters covered, is the model's choice, log entry 18. -/
def Obligations.DiscardedLinesAreCounted : Prop :=
  ∀ s : State, linkQuiet s →
    (∀ cs : Text, (Instr.overlengthLine cs).wellFormed = true →
      exec (.overlengthLine cs) s = .next
        { s with link := { s.link with buffer := .idle, overlength := min 65535 (s.link.overlength + 1) } })
    ∧ (∀ line : Text, (Instr.lineDiscarded line).wellFormed = true →
        (∀ (address check : Nat) (command : Text) (fields : List Text),
          address < 100 → check < 256 → command.length = 2 → (∀ f ∈ fields, fieldWellFormed f = true) →
          line ≠ requestLine address command fields check) →
      exec (.lineDiscarded line) s = .next
        { s with link := { s.link with buffer := .idle, badCheck := min 65535 (s.link.badCheck + 1) } })
    ∧ ∀ (address check : Nat) (command : Text) (fields : List Text),
      command.length = 2 → (∀ c ∈ command, c ≠ '@' ∧ c ≠ '\r') → (∀ f ∈ fields, fieldWellFormed f = true) →
      address < 100 → check < 256 → (requestLine address command fields check).length ≤ 96 →
      (address ≠ s.link.address →
        exec (.lineDiscarded (requestLine address command fields check)) s = .next
          { s with link := { s.link with
              buffer := .idle, otherAddress := min 65535 (s.link.otherAddress + 1) } })
      ∧ (address = s.link.address → checkSum (checkedText address command fields) ≠ check →
        exec (.lineDiscarded (requestLine address command fields check)) s = .next
          { s with link := { s.link with buffer := .idle, badCheck := min 65535 (s.link.badCheck + 1) } })

/-- The reports answer from the state as it stands and change nothing but the link; RR of a vacant row is ER 7, an
unknown command is ER 1, and the end of a reply frees the transmitter (R128, R129, R172, R174, R175, R177, R179,
R180, R181). The verdict's letter in RR and the layout of SQ are the model's choice, log entries 29 and 30. -/
def Obligations.ReportsChangeOnlyTheLink : Prop :=
  ∀ s : State,
    (linkQuiet s →
      exec (.st []) s = .next (answered s "ST".toList (.ok (spaced (statusFields s))))
      ∧ exec (.al []) s = .next (answered s "AL".toList (.ok (alertContent s)))
      ∧ exec (.sq []) s = .next (answered s "SQ".toList (.ok (stationsContent s)))
      ∧ exec (.dg []) s = .next (answered s "DG".toList (.ok (spaced (diagnosticFields s))))
      ∧ exec (.pg []) s = .next (answered s "PG".toList (.ok (spaced (allParamNames.map (pairText s.settings)))))
      ∧ (∀ n : ParamName, exec (.pg [paramNameText n]) s = .next (answered s "PG".toList (.ok (pairText s.settings n))))
      ∧ exec (.tl []) s = .next (answered s "TL".toList (.ok (tunnelContent s 1)))
      ∧ (∀ (n : Rack) (w : Row), row s n = some w →
          exec (.rr [rackText n]) s = .next (answered s "RR".toList (.ok (rowContent w "CPWVSF".toList))))
      ∧ (∀ n : Rack, row s n = none → exec (.rr [rackText n]) s = .next (answered s "RR".toList (.error 7)))
      ∧ (∀ n : Rack, exec (.rs [rackText n, ['0']]) s = .next
          (answered s "RS".toList (.ok ((s.registry.toList.drop n.val).map rowChar))))
      ∧ (∀ (code : Text) (fields : List Text), code ∉ Config.commandCodes →
          exec (.unknownCommand code fields) s = .next (answered s code (.error 1))))
    ∧ exec .replyEnd s = .next { s with link := { s.link with transmitter := .quiet } }

/-- HB sets PAUSE in every mode and stands the belt; HR clears it, and on a RUN line that PAUSE alone holds the belt
starts: the set point is the speed demand, the valve opens, the encoder-stall timer runs from 0, and an overrun of
the stall timer replaces a smaller longest overrun. Each is answered OK (R93, R94, R98, R103). -/
def Obligations.PauseStandsAndReleasesTheBelt : Prop :=
  ∀ s : State, linkQuiet s → OutputsFollow s →
    (∃ t, exec (.hb []) s = .next t
      ∧ t.pacing.pauseCause = true ∧ t.pacing.exitCause = s.pacing.exitCause
      ∧ t.pacing.doorCause = s.pacing.doorCause ∧ t.pacing.speedDemand = s.pacing.speedDemand
      ∧ t.pacing.beltRun = false ∧ t.pacing.valveOpen = false ∧ t.pacing.setPoint = 0
      ∧ (holdSetEmpty s = true → t.sup.lineHeld = true ∧ t.tray.lineHeld = true)
      ∧ t = { answered s "HB".toList (.ok []) with
          belt := { s.belt with timer := t.belt.timer }, pacing := t.pacing
          sup := { s.sup with lineHeld := t.sup.lineHeld }, tray := { s.tray with lineHeld := t.tray.lineHeld } })
    ∧ (Settled s → nobodyWaits s = true → s.sup.mode = .run → lineEmpty s = false →
        s.pacing.pauseCause = true → s.pacing.exitCause = false → s.pacing.doorCause = false →
        s.rinse.rinse.cause = none → s.rinse.wash.cause = none →
      exec (.hr []) s = .next
        (answered
          { s with
            belt := { s.belt with timer := .running 0 }
            pacing := { s.pacing with
              pauseCause := false, beltRun := true, setPoint := s.pacing.speedDemand, valveOpen := true
              stallTimer := .idle
              longestOverrun :=
                match s.pacing.stallTimer with
                | .counting c => if c < 0 then max s.pacing.longestOverrun c.natAbs else s.pacing.longestOverrun
                | .reached => s.pacing.longestOverrun
                | .idle => s.pacing.longestOverrun }
            sup := { s.sup with lineHeld := false }
            tray := { s.tray with lineHeld := false } }
          "HR".toList (.ok [])))

/-- AC clears every kind, or the named one alone; AM makes the mask exactly the named kinds, and is refused with ER 2
without a field and with ER 3 during a store operation; the ALERT output follows both (R167). SS writes one entry of
the station table, and is refused with ER 3 during a store operation and with ER 6 below the present occupancy
(R133). -/
def Obligations.AlertsMaskAndStationsAreSet : Prop :=
  ∀ s : State, linkQuiet s →
    (exec (.ac []) s = .next
      (answered { s with sup := { s.sup with alerts := Vector.replicate 20 none, alertOutput := false } }
        "AC".toList (.ok [])))
    ∧ (∀ k : AlertKind, ∃ t, exec (.ac [alertText k]) s = .next t
        ∧ alert t k = none ∧ (∀ j : AlertKind, j ≠ k → alert t j = alert s j) ∧ AlertOutputRight t
        ∧ t = { answered s "AC".toList (.ok []) with
            sup := { s.sup with alerts := t.sup.alerts, alertOutput := t.sup.alertOutput } })
    ∧ exec (.am []) s = .next (answered s "AM".toList (.error 2))
    ∧ (∀ kinds : List AlertKind, kinds ≠ [] → s.sup.storeOp = .none →
        ∃ t, exec (.am (kinds.map alertText)) s = .next t
          ∧ (∀ k : AlertKind, t.sup.mask[k.index] = true ↔ k ∈ kinds) ∧ AlertOutputRight t
          ∧ t = { answered s "AM".toList (.ok []) with
              sup := { s.sup with mask := t.sup.mask, alertOutput := t.sup.alertOutput } })
    ∧ (∀ kinds : List AlertKind, kinds ≠ [] → s.sup.storeOp ≠ .none →
        exec (.am (kinds.map alertText)) s = .next (answered s "AM".toList (.error 3)))
    ∧ ∀ (fields : List Text) (k : Station) (e : StationEntry), stationFields? fields = some (k, e) →
      exec (.ss fields) s = .next
        (if s.sup.storeOp ≠ .none then answered s "SS".toList (.error 3)
        else if e.capacity < occupancy s k then answered s "SS".toList (.error 6)
        else answered { s with returns := { s.returns with stations := s.returns.stations.set k e } }
          "SS".toList (.ok []))

/-- TK with n from 1 to 8 removes the n oldest wash records, or all where there are fewer, and reports them oldest
first; the next serial stays. A missing field is ER 2 and removes nothing (R111, R112). -/
def Obligations.TkTakesTheOldestRecords : Prop :=
  ∀ s : State, linkQuiet s →
    (∀ n : Nat, 1 ≤ n → n ≤ 8 → Settled s → nobodyWaits s = true →
      exec (.tk [[digitChar n]]) s = .next
        (answered { s with outbox := { s.outbox with queue := s.outbox.queue.drop n } } "TK".toList
          (.ok (joinWith ';' ((s.outbox.queue.take n).map washItem)))))
    ∧ exec (.tk []) s = .next (answered s "TK".toList (.error 2))

/-- EN enrols a vacant row, ON_RETURN where an en-route entry carries its number and UNSEEN otherwise; DR makes a row
vacant and RT retires it, both refused with ER 6 while a collection holds the rack; the three are refused with ER 3
during a store operation, and DR, RT and MK of a vacant row with ER 7. MK places a rack that no collection and no
stop holds LOST or UNSEEN (R123 to R127). -/
def Obligations.RegistryCommandsChangeOneRow : Prop :=
  ∀ (s : State) (n : Rack), linkQuiet s → Settled s → nobodyWaits s = true →
    (∀ c : RackClass, exec (.en [rackText n, classText c]) s = .next
      (if s.sup.storeOp ≠ .none then answered s "EN".toList (.error 3)
      else if (row s n).isSome then answered s "EN".toList (.error 6)
      else
        answered
          { s with registry := s.registry.set n (some
              { cls := c
                place := if s.returns.enRoute.any (fun e => e.rack == some n) then .onReturn else .unseen
                retired := false, rewashDue := false, washCount := 0, lastVerdict := none, lastSerial := none }) }
          "EN".toList (.ok [])))
    ∧ (∀ w : Row, row s n = some w → s.sup.storeOp = .none →
        w.place = .admitting ∨ w.place = .inTunnel ∨ w.place = .atExit ∨ w.place = .onReturn →
        exec (.dr [rackText n]) s = .next (answered s "DR".toList (.error 6))
        ∧ exec (.rt [rackText n]) s = .next (answered s "RT".toList (.error 6)))
    ∧ (∀ w : Row, row s n = some w → s.sup.storeOp = .none →
        w.place ≠ .admitting → w.place ≠ .inTunnel → w.place ≠ .atExit → w.place ≠ .onReturn →
        exec (.dr [rackText n]) s = .next
          (answered { s with registry := s.registry.set n none } "DR".toList (.ok []))
        ∧ exec (.rt [rackText n]) s = .next
          (answered { s with registry := s.registry.set n (some { w with retired := true }) } "RT".toList (.ok [])))
    ∧ (s.sup.storeOp ≠ .none →
        exec (.dr [rackText n]) s = .next (answered s "DR".toList (.error 3))
        ∧ exec (.rt [rackText n]) s = .next (answered s "RT".toList (.error 3)))
    ∧ (row s n = none → s.sup.storeOp = .none →
        exec (.dr [rackText n]) s = .next (answered s "DR".toList (.error 7))
        ∧ exec (.rt [rackText n]) s = .next (answered s "RT".toList (.error 7))
        ∧ exec (.mk [rackText n, "LOST".toList]) s = .next (answered s "MK".toList (.error 7)))
    ∧ (∀ w : Row, row s n = some w →
        exec (.mk [rackText n, "LOST".toList]) s = .next
          (if w.place = .queued ∨ w.place = .admitting ∨ w.place = .inTunnel ∨ w.place = .atExit
              ∨ w.place = .onReturn then
            answered s "MK".toList (.error 6)
          else
            answered { s with registry := s.registry.set n (some { w with place := .lost }) } "MK".toList (.ok []))
        ∧ exec (.mk [rackText n, "UNSEEN".toList]) s = .next
          (if w.place = .queued ∨ w.place = .admitting ∨ w.place = .inTunnel ∨ w.place = .atExit
              ∨ w.place = .onReturn then
            answered s "MK".toList (.error 6)
          else
            answered { s with registry := s.registry.set n (some { w with place := .unseen }) } "MK".toList
              (.ok [])))

/-- PS: fields that are no NAME=value pairs are ER 2; during a store operation a well-formed request is ER 3; one
that writes a protected parameter, POL among them, with the SERVICE key inactive is ER 5 (R176, R177). Any other
request, of one pair or of several, is judged on the settings as they would stand with all its values together: each
number clamped into its range (R175), POLL rounded down to a multiple of 100 (R71), the positions of the zone table as
written (R13), VMIN then at most VNOM (R82) and WRESUME at least WFLOOR (R84). One that names a parameter of the zone
table is ER 4 on an occupied line and ER 2 where the table fails R13's checks; one that names a parameter of the
credit table likewise (R76); one that leaves TREF or TRESUME a credit of 0 by a value of its own or by the table is
ER 6 (R76, R82, R83). A refused request changes nothing. One that passes is stored whole, answered with its pairs as
stored, and taken up at once: EPM clears both accumulators (R2), an input whose polarity changes is judged against its
filtered state (R19), the speed demand is clamped (R82), and the hold counts, the congestion timer and the run-on
count are judged by it (R149, R154, R161). That a zone position below 0 is ER 2 and is not clamped is the model's
choice, log entry 27; so is the order in which the checks of several parameters are made, log entry 28. -/
def Obligations.PsStoresWholeRequestsOrNothing : Prop :=
  ∀ s : State, linkQuiet s →
    (∀ fields : List Text, psFields? fields = none →
      exec (.ps fields) s = .next (answered s "PS".toList (.error 2)))
    ∧ (∀ (fields : List Text) (ws : List ParamWrite), psFields? fields = some ws → s.sup.storeOp ≠ .none →
      exec (.ps fields) s = .next (answered s "PS".toList (.error 3)))
    ∧ (∀ (fields : List Text) (ws : List ParamWrite), psFields? fields = some ws → s.sup.storeOp = .none →
        isActive s .sk = false → (∃ w ∈ ws, keyNeeded w = true) →
      exec (.ps fields) s = .next (answered s "PS".toList (.error 5)))
    ∧ ∀ (fields : List Text) (ws : List ParamWrite) (c : Settings), psFields? fields = some ws →
        s.sup.storeOp = .none → isActive s .sk = true ∨ (∀ w ∈ ws, keyNeeded w = false) → AsWritten s.settings ws c →
      if namesAny ws paramIsZone = true ∧ lineEmpty s = false then
        exec (.ps fields) s = .next (answered s "PS".toList (.error 4))
      else if namesAny ws paramIsZone = true ∧ (zoneTableValid c = false ∨ (ws.any positionBelowZero) = true) then
        exec (.ps fields) s = .next (answered s "PS".toList (.error 2))
      else if namesAny ws paramIsCredit = true ∧ lineEmpty s = false then
        exec (.ps fields) s = .next (answered s "PS".toList (.error 4))
      else if namesAny ws paramIsCredit = true ∧ creditTableValid c = false then
        exec (.ps fields) s = .next (answered s "PS".toList (.error 2))
      else if namesAny ws (fun p => paramIsCredit p || p == .tref) = true ∧ credit c (paramGet c .tref) = 0 then
        exec (.ps fields) s = .next (answered s "PS".toList (.error 6))
      else if namesAny ws (fun p => paramIsCredit p || p == .tresume) = true
          ∧ credit c (paramGet c .tresume) = 0 then
        exec (.ps fields) s = .next (answered s "PS".toList (.error 6))
      else
        ∃ t, exec (.ps fields) s = .next t
          ∧ t.settings = c
          ∧ t.link = (answered s "PS".toList (.ok (spaced (ws.map fun w => pairText c w.name)))).link
          ∧ t.belt.forwardAcc = (if namesAny ws (· == .epm) then 0 else s.belt.forwardAcc)
          ∧ t.belt.reverseAcc = (if namesAny ws (· == .epm) then 0 else s.belt.reverseAcc)
          ∧ t.belt.odometer = s.belt.odometer ∧ t.belt.reverseCount = s.belt.reverseCount
          ∧ (∀ i : Input, channel t i = { channel s i with
              qualifying :=
                if c.pol[i.index] = s.settings.pol[i.index] then (channel s i).qualifying
                else ((channel s i).level == c.pol[i.index]) != (channel s i).filtered })
          ∧ t.pacing.speedDemand = min (max s.pacing.speedDemand (paramGet c .vmin)) (paramGet c .vnom)
          ∧ (∀ b : TrayBelt, (trayChannel t b).holdCount = min (trayChannel s b).holdCount (paramGet c .holdlim))
          ∧ t.tray.congestionTimer = min s.tray.congestionTimer (paramGet c .congd * 10)
          ∧ (t.tray.congested = true ↔ t.tray.congestionTimer = paramGet c .congd * 10)
          ∧ (nobodyWaits s = true →
              t.stage = s.stage ∧ t.registry = s.registry ∧ t.returns.enRoute = s.returns.enRoute
              ∧ (s.sup.mode = .run → lineEmpty s = true → s.sup.draining = false → s.sup.lineHeld = false →
                  (t.sup.mode = .parked ↔ paramGet c .runon ≤ s.sup.runOn)))
          ∧ t = { s with
              belt := t.belt, inputs := t.inputs, stage := t.stage, pacing := t.pacing, registry := t.registry
              returns := { s.returns with
                enRoute := t.returns.enRoute, diverters := t.returns.diverters, returnBelt := t.returns.returnBelt }
              tray := t.tray, sup := t.sup, link := t.link, settings := t.settings }

/-- GO runs a PARKED line and undoes a drain, and is refused with ER 4 in LOADING, WARMING and HALT. SP drains an
occupied RUN line, parks an empty one, changes nothing in PARKED and WARMING, and is refused with ER 4 in LOADING and
HALT. CR ends a HALT in RUN where the line holds anything and in WARMING where it holds nothing, and is refused with
ER 3 during a load and with ER 4 while the ESTOP loop is active (R160, R162, R164). That SP on an empty RUN line
keeps the run-on count is the model's choice, log entry 25. -/
def Obligations.GoSpAndCrMoveTheLine : Prop :=
  ∀ s : State, linkQuiet s → nobodyWaits s = true →
    (s.sup.mode = .parked → lineEmpty s = true → 0 < par s .runon → s.sup.draining = false →
      ∃ t, exec (.go []) s = .next t
        ∧ t.sup = { s.sup with mode := .run, runOn := 0 } ∧ t.pacing.beltRun = holdSetEmpty s
        ∧ t = { answered s "GO".toList (.ok []) with
            sup := t.sup, pacing := t.pacing, belt := { s.belt with timer := t.belt.timer }
            returns := { s.returns with returnBelt := !isActive s .rf } })
    ∧ (s.sup.mode = .run → lineEmpty s = false →
      exec (.go []) s = .next
        (answered { s with sup := { s.sup with draining := false, runOn := 0 } } "GO".toList (.ok []))
      ∧ (s.sup.runOn = 0 →
        exec (.sp []) s = .next
          (answered { s with sup := { s.sup with draining := true } } "SP".toList (.ok []))))
    ∧ (s.sup.mode = .loading ∨ s.sup.mode = .warming ∨ s.sup.mode.isHalt = true →
      exec (.go []) s = .next (answered s "GO".toList (.error 4)))
    ∧ (s.sup.mode = .loading ∨ s.sup.mode.isHalt = true →
      exec (.sp []) s = .next (answered s "SP".toList (.error 4)))
    ∧ (s.sup.mode = .parked ∨ s.sup.mode = .warming →
      exec (.sp []) s = .next (answered s "SP".toList (.ok [])))
    ∧ (s.sup.mode = .run → lineEmpty s = true →
      ∃ t, exec (.sp []) s = .next t
        ∧ t.sup = { s.sup with mode := .parked } ∧ t.pacing.beltRun = false
        ∧ t = { answered s "SP".toList (.ok []) with
            sup := t.sup, pacing := t.pacing, belt := { s.belt with timer := t.belt.timer }
            returns := { s.returns with returnBelt := !isActive s .rf } })
    ∧ ((∃ kind, s.sup.storeOp = .loading kind) → exec (.cr []) s = .next (answered s "CR".toList (.error 3)))
    ∧ ((∀ kind, s.sup.storeOp ≠ .loading kind) → isActive s .es = true →
      exec (.cr []) s = .next (answered s "CR".toList (.error 4)))
    ∧ ((∀ kind, s.sup.storeOp ≠ .loading kind) → isActive s .es = false →
      (s.sup.mode.isHalt = false → exec (.cr []) s = .next (answered s "CR".toList (.ok [])))
      ∧ (s.sup.mode.isHalt = true →
        ∃ t, exec (.cr []) s = .next t
          ∧ t.sup.mode = (if lineEmpty s then .warming else .run) ∧ t.sup.draining = false
          ∧ t.pacing.beltRun = (!lineEmpty s && holdSetEmpty s)
          ∧ t.returns.returnBelt = !isActive s .rf
          ∧ t = { answered s "CR".toList (.ok []) with
              sup := t.sup, pacing := t.pacing, belt := { s.belt with timer := t.belt.timer }
              returns := { s.returns with returnBelt := t.returns.returnBelt }, tray := t.tray }))

/-! ## Invariants -/

/-- Whatever command is taken, the belt run output is ON exactly in RUN with the hold set empty, and the valve, the
set point, the encoder-stall timer and the stall timer follow it (R8, R94, R95, R97, R101, R103). -/
def Obligations.EveryStepKeepsTheBeltOutputs : Prop :=
  ∀ s t : State, OutputsFollow s → step s = .next t → OutputsFollow t

/-- Whatever command is taken, the tunnel records, the pending admission, the check and the outbox together never
exceed 96, the tunnel list with the pending admission 16, and the en-route list 24 (R49, R110, R136, R139). -/
def Obligations.EveryStepKeepsTheLimits : Prop :=
  ∀ s t : State, WithinLimits s → step s = .next t → WithinLimits t

/-- Whatever command is taken, the serials of the outbox run consecutively from the oldest record to the newest and
on to the next serial, 999999 being followed by 1 (R109, R111). -/
def Obligations.EveryStepKeepsTheSerialsInSequence : Prop :=
  ∀ s t : State, OutboxSerialsRun s → step s = .next t → OutboxSerialsRun t

/-- Whatever command is taken, the ALERT output is active exactly while an unmasked kind is latched, the line-held
copies say whether the hold set is non-empty, and the return belt, the diverters and the tray belts stand as the
mode asks (R98, R141, R145, R153, R157, R167). -/
def Obligations.EveryStepKeepsWhatFollowsTheLine : Prop :=
  ∀ s t : State, AlertOutputRight s → BlocksFollowTheLine s → step s = .next t →
    AlertOutputRight t ∧ BlocksFollowTheLine t

/-- Whatever command is taken, it leaves nothing to settle: a rack that waits for a reason that can pass has been
decided on the state as it now stands, and no drain and no run-on is left complete on a RUN line (R35, R161,
R162). -/
def Obligations.EveryStepSettlesTheLine : Prop :=
  ∀ s t : State, Settled s → step s = .next t → Settled t

/-- The card right after reset meets every invariant that the steps keep. -/
def Obligations.ResetMeetsTheInvariants : Prop :=
  OutputsFollow State.reset ∧ WithinLimits State.reset ∧ OutboxSerialsRun State.reset
    ∧ AlertOutputRight State.reset ∧ BlocksFollowTheLine State.reset ∧ Settled State.reset
end

