-- ==== Sys2Proof/Laws/State.lean ====
section
/-! SUPPORT. What the plain updates of the state leave alone: one lemma for each update and each block it does not
touch, all true by definition. -/

namespace Sys2Proof.Laws

open Sys2Proof.Machine

/-! `setChannel` changes `inputs` only. -/
@[simp] theorem setChannel_belt (s : State) (i : Input) (c : InputChannel) : (setChannel s i c).belt = s.belt := rfl
@[simp] theorem setChannel_readers (s : State) (i : Input) (c : InputChannel) : (setChannel s i c).readers = s.readers := rfl
@[simp] theorem setChannel_stage (s : State) (i : Input) (c : InputChannel) : (setChannel s i c).stage = s.stage := rfl
@[simp] theorem setChannel_tunnel (s : State) (i : Input) (c : InputChannel) : (setChannel s i c).tunnel = s.tunnel := rfl
@[simp] theorem setChannel_rinse (s : State) (i : Input) (c : InputChannel) : (setChannel s i c).rinse = s.rinse := rfl
@[simp] theorem setChannel_pacing (s : State) (i : Input) (c : InputChannel) : (setChannel s i c).pacing = s.pacing := rfl
@[simp] theorem setChannel_outbox (s : State) (i : Input) (c : InputChannel) : (setChannel s i c).outbox = s.outbox := rfl
@[simp] theorem setChannel_registry (s : State) (i : Input) (c : InputChannel) : (setChannel s i c).registry = s.registry := rfl
@[simp] theorem setChannel_returns (s : State) (i : Input) (c : InputChannel) : (setChannel s i c).returns = s.returns := rfl
@[simp] theorem setChannel_tray (s : State) (i : Input) (c : InputChannel) : (setChannel s i c).tray = s.tray := rfl
@[simp] theorem setChannel_sup (s : State) (i : Input) (c : InputChannel) : (setChannel s i c).sup = s.sup := rfl
@[simp] theorem setChannel_link (s : State) (i : Input) (c : InputChannel) : (setChannel s i c).link = s.link := rfl
@[simp] theorem setChannel_settings (s : State) (i : Input) (c : InputChannel) : (setChannel s i c).settings = s.settings := rfl
@[simp] theorem setChannel_store (s : State) (i : Input) (c : InputChannel) : (setChannel s i c).store = s.store := rfl
@[simp] theorem setChannel_freeIndex (s : State) (i : Input) (c : InputChannel) : (setChannel s i c).freeIndex = s.freeIndex := rfl
@[simp] theorem setChannel_pending (s : State) (i : Input) (c : InputChannel) : (setChannel s i c).pending = s.pending := rfl

/-! `setRow` changes `registry` only. -/
@[simp] theorem setRow_belt (s : State) (r : Rack) (w : Option Row) : (setRow s r w).belt = s.belt := rfl
@[simp] theorem setRow_inputs (s : State) (r : Rack) (w : Option Row) : (setRow s r w).inputs = s.inputs := rfl
@[simp] theorem setRow_readers (s : State) (r : Rack) (w : Option Row) : (setRow s r w).readers = s.readers := rfl
@[simp] theorem setRow_stage (s : State) (r : Rack) (w : Option Row) : (setRow s r w).stage = s.stage := rfl
@[simp] theorem setRow_tunnel (s : State) (r : Rack) (w : Option Row) : (setRow s r w).tunnel = s.tunnel := rfl
@[simp] theorem setRow_rinse (s : State) (r : Rack) (w : Option Row) : (setRow s r w).rinse = s.rinse := rfl
@[simp] theorem setRow_pacing (s : State) (r : Rack) (w : Option Row) : (setRow s r w).pacing = s.pacing := rfl
@[simp] theorem setRow_outbox (s : State) (r : Rack) (w : Option Row) : (setRow s r w).outbox = s.outbox := rfl
@[simp] theorem setRow_returns (s : State) (r : Rack) (w : Option Row) : (setRow s r w).returns = s.returns := rfl
@[simp] theorem setRow_tray (s : State) (r : Rack) (w : Option Row) : (setRow s r w).tray = s.tray := rfl
@[simp] theorem setRow_sup (s : State) (r : Rack) (w : Option Row) : (setRow s r w).sup = s.sup := rfl
@[simp] theorem setRow_link (s : State) (r : Rack) (w : Option Row) : (setRow s r w).link = s.link := rfl
@[simp] theorem setRow_settings (s : State) (r : Rack) (w : Option Row) : (setRow s r w).settings = s.settings := rfl
@[simp] theorem setRow_store (s : State) (r : Rack) (w : Option Row) : (setRow s r w).store = s.store := rfl
@[simp] theorem setRow_freeIndex (s : State) (r : Rack) (w : Option Row) : (setRow s r w).freeIndex = s.freeIndex := rfl
@[simp] theorem setRow_pending (s : State) (r : Rack) (w : Option Row) : (setRow s r w).pending = s.pending := rfl

/-! `setStage` changes `stage` only. -/
@[simp] theorem setStage_belt (s : State) (g : Stage) : (setStage s g).belt = s.belt := rfl
@[simp] theorem setStage_inputs (s : State) (g : Stage) : (setStage s g).inputs = s.inputs := rfl
@[simp] theorem setStage_readers (s : State) (g : Stage) : (setStage s g).readers = s.readers := rfl
@[simp] theorem setStage_tunnel (s : State) (g : Stage) : (setStage s g).tunnel = s.tunnel := rfl
@[simp] theorem setStage_rinse (s : State) (g : Stage) : (setStage s g).rinse = s.rinse := rfl
@[simp] theorem setStage_pacing (s : State) (g : Stage) : (setStage s g).pacing = s.pacing := rfl
@[simp] theorem setStage_outbox (s : State) (g : Stage) : (setStage s g).outbox = s.outbox := rfl
@[simp] theorem setStage_registry (s : State) (g : Stage) : (setStage s g).registry = s.registry := rfl
@[simp] theorem setStage_returns (s : State) (g : Stage) : (setStage s g).returns = s.returns := rfl
@[simp] theorem setStage_tray (s : State) (g : Stage) : (setStage s g).tray = s.tray := rfl
@[simp] theorem setStage_sup (s : State) (g : Stage) : (setStage s g).sup = s.sup := rfl
@[simp] theorem setStage_link (s : State) (g : Stage) : (setStage s g).link = s.link := rfl
@[simp] theorem setStage_settings (s : State) (g : Stage) : (setStage s g).settings = s.settings := rfl
@[simp] theorem setStage_store (s : State) (g : Stage) : (setStage s g).store = s.store := rfl
@[simp] theorem setStage_freeIndex (s : State) (g : Stage) : (setStage s g).freeIndex = s.freeIndex := rfl
@[simp] theorem setStage_pending (s : State) (g : Stage) : (setStage s g).pending = s.pending := rfl

/-! `setSlot` changes `tunnel` only. -/
@[simp] theorem setSlot_belt (s : State) (k : Option ExitRecord) : (setSlot s k).belt = s.belt := rfl
@[simp] theorem setSlot_inputs (s : State) (k : Option ExitRecord) : (setSlot s k).inputs = s.inputs := rfl
@[simp] theorem setSlot_readers (s : State) (k : Option ExitRecord) : (setSlot s k).readers = s.readers := rfl
@[simp] theorem setSlot_stage (s : State) (k : Option ExitRecord) : (setSlot s k).stage = s.stage := rfl
@[simp] theorem setSlot_rinse (s : State) (k : Option ExitRecord) : (setSlot s k).rinse = s.rinse := rfl
@[simp] theorem setSlot_pacing (s : State) (k : Option ExitRecord) : (setSlot s k).pacing = s.pacing := rfl
@[simp] theorem setSlot_outbox (s : State) (k : Option ExitRecord) : (setSlot s k).outbox = s.outbox := rfl
@[simp] theorem setSlot_registry (s : State) (k : Option ExitRecord) : (setSlot s k).registry = s.registry := rfl
@[simp] theorem setSlot_returns (s : State) (k : Option ExitRecord) : (setSlot s k).returns = s.returns := rfl
@[simp] theorem setSlot_tray (s : State) (k : Option ExitRecord) : (setSlot s k).tray = s.tray := rfl
@[simp] theorem setSlot_sup (s : State) (k : Option ExitRecord) : (setSlot s k).sup = s.sup := rfl
@[simp] theorem setSlot_link (s : State) (k : Option ExitRecord) : (setSlot s k).link = s.link := rfl
@[simp] theorem setSlot_settings (s : State) (k : Option ExitRecord) : (setSlot s k).settings = s.settings := rfl
@[simp] theorem setSlot_store (s : State) (k : Option ExitRecord) : (setSlot s k).store = s.store := rfl
@[simp] theorem setSlot_freeIndex (s : State) (k : Option ExitRecord) : (setSlot s k).freeIndex = s.freeIndex := rfl
@[simp] theorem setSlot_pending (s : State) (k : Option ExitRecord) : (setSlot s k).pending = s.pending := rfl

/-! `changeSlot` changes `tunnel` only. -/
@[simp] theorem changeSlot_belt (s : State) (f : ExitRecord → ExitRecord) : (changeSlot s f).belt = s.belt := rfl
@[simp] theorem changeSlot_inputs (s : State) (f : ExitRecord → ExitRecord) : (changeSlot s f).inputs = s.inputs := rfl
@[simp] theorem changeSlot_readers (s : State) (f : ExitRecord → ExitRecord) : (changeSlot s f).readers = s.readers := rfl
@[simp] theorem changeSlot_stage (s : State) (f : ExitRecord → ExitRecord) : (changeSlot s f).stage = s.stage := rfl
@[simp] theorem changeSlot_rinse (s : State) (f : ExitRecord → ExitRecord) : (changeSlot s f).rinse = s.rinse := rfl
@[simp] theorem changeSlot_pacing (s : State) (f : ExitRecord → ExitRecord) : (changeSlot s f).pacing = s.pacing := rfl
@[simp] theorem changeSlot_outbox (s : State) (f : ExitRecord → ExitRecord) : (changeSlot s f).outbox = s.outbox := rfl
@[simp] theorem changeSlot_registry (s : State) (f : ExitRecord → ExitRecord) : (changeSlot s f).registry = s.registry := rfl
@[simp] theorem changeSlot_returns (s : State) (f : ExitRecord → ExitRecord) : (changeSlot s f).returns = s.returns := rfl
@[simp] theorem changeSlot_tray (s : State) (f : ExitRecord → ExitRecord) : (changeSlot s f).tray = s.tray := rfl
@[simp] theorem changeSlot_sup (s : State) (f : ExitRecord → ExitRecord) : (changeSlot s f).sup = s.sup := rfl
@[simp] theorem changeSlot_link (s : State) (f : ExitRecord → ExitRecord) : (changeSlot s f).link = s.link := rfl
@[simp] theorem changeSlot_settings (s : State) (f : ExitRecord → ExitRecord) : (changeSlot s f).settings = s.settings := rfl
@[simp] theorem changeSlot_store (s : State) (f : ExitRecord → ExitRecord) : (changeSlot s f).store = s.store := rfl
@[simp] theorem changeSlot_freeIndex (s : State) (f : ExitRecord → ExitRecord) : (changeSlot s f).freeIndex = s.freeIndex := rfl
@[simp] theorem changeSlot_pending (s : State) (f : ExitRecord → ExitRecord) : (changeSlot s f).pending = s.pending := rfl

/-! `flagRecords` changes `tunnel` only. -/
@[simp] theorem flagRecords_belt (s : State) (p : TunnelRecord → Bool) (f : Flags → Flags) : (flagRecords s p f).belt = s.belt := rfl
@[simp] theorem flagRecords_inputs (s : State) (p : TunnelRecord → Bool) (f : Flags → Flags) : (flagRecords s p f).inputs = s.inputs := rfl
@[simp] theorem flagRecords_readers (s : State) (p : TunnelRecord → Bool) (f : Flags → Flags) : (flagRecords s p f).readers = s.readers := rfl
@[simp] theorem flagRecords_stage (s : State) (p : TunnelRecord → Bool) (f : Flags → Flags) : (flagRecords s p f).stage = s.stage := rfl
@[simp] theorem flagRecords_rinse (s : State) (p : TunnelRecord → Bool) (f : Flags → Flags) : (flagRecords s p f).rinse = s.rinse := rfl
@[simp] theorem flagRecords_pacing (s : State) (p : TunnelRecord → Bool) (f : Flags → Flags) : (flagRecords s p f).pacing = s.pacing := rfl
@[simp] theorem flagRecords_outbox (s : State) (p : TunnelRecord → Bool) (f : Flags → Flags) : (flagRecords s p f).outbox = s.outbox := rfl
@[simp] theorem flagRecords_registry (s : State) (p : TunnelRecord → Bool) (f : Flags → Flags) : (flagRecords s p f).registry = s.registry := rfl
@[simp] theorem flagRecords_returns (s : State) (p : TunnelRecord → Bool) (f : Flags → Flags) : (flagRecords s p f).returns = s.returns := rfl
@[simp] theorem flagRecords_tray (s : State) (p : TunnelRecord → Bool) (f : Flags → Flags) : (flagRecords s p f).tray = s.tray := rfl
@[simp] theorem flagRecords_sup (s : State) (p : TunnelRecord → Bool) (f : Flags → Flags) : (flagRecords s p f).sup = s.sup := rfl
@[simp] theorem flagRecords_link (s : State) (p : TunnelRecord → Bool) (f : Flags → Flags) : (flagRecords s p f).link = s.link := rfl
@[simp] theorem flagRecords_settings (s : State) (p : TunnelRecord → Bool) (f : Flags → Flags) : (flagRecords s p f).settings = s.settings := rfl
@[simp] theorem flagRecords_store (s : State) (p : TunnelRecord → Bool) (f : Flags → Flags) : (flagRecords s p f).store = s.store := rfl
@[simp] theorem flagRecords_freeIndex (s : State) (p : TunnelRecord → Bool) (f : Flags → Flags) : (flagRecords s p f).freeIndex = s.freeIndex := rfl
@[simp] theorem flagRecords_pending (s : State) (p : TunnelRecord → Bool) (f : Flags → Flags) : (flagRecords s p f).pending = s.pending := rfl

/-! `lightLamp` changes `tunnel` only. -/
@[simp] theorem lightLamp_belt (s : State) : (lightLamp s).belt = s.belt := rfl
@[simp] theorem lightLamp_inputs (s : State) : (lightLamp s).inputs = s.inputs := rfl
@[simp] theorem lightLamp_readers (s : State) : (lightLamp s).readers = s.readers := rfl
@[simp] theorem lightLamp_stage (s : State) : (lightLamp s).stage = s.stage := rfl
@[simp] theorem lightLamp_rinse (s : State) : (lightLamp s).rinse = s.rinse := rfl
@[simp] theorem lightLamp_pacing (s : State) : (lightLamp s).pacing = s.pacing := rfl
@[simp] theorem lightLamp_outbox (s : State) : (lightLamp s).outbox = s.outbox := rfl
@[simp] theorem lightLamp_registry (s : State) : (lightLamp s).registry = s.registry := rfl
@[simp] theorem lightLamp_returns (s : State) : (lightLamp s).returns = s.returns := rfl
@[simp] theorem lightLamp_tray (s : State) : (lightLamp s).tray = s.tray := rfl
@[simp] theorem lightLamp_sup (s : State) : (lightLamp s).sup = s.sup := rfl
@[simp] theorem lightLamp_link (s : State) : (lightLamp s).link = s.link := rfl
@[simp] theorem lightLamp_settings (s : State) : (lightLamp s).settings = s.settings := rfl
@[simp] theorem lightLamp_store (s : State) : (lightLamp s).store = s.store := rfl
@[simp] theorem lightLamp_freeIndex (s : State) : (lightLamp s).freeIndex = s.freeIndex := rfl
@[simp] theorem lightLamp_pending (s : State) : (lightLamp s).pending = s.pending := rfl

/-! `lampOff` changes `tunnel` only. -/
@[simp] theorem lampOff_belt (s : State) : (lampOff s).belt = s.belt := rfl
@[simp] theorem lampOff_inputs (s : State) : (lampOff s).inputs = s.inputs := rfl
@[simp] theorem lampOff_readers (s : State) : (lampOff s).readers = s.readers := rfl
@[simp] theorem lampOff_stage (s : State) : (lampOff s).stage = s.stage := rfl
@[simp] theorem lampOff_rinse (s : State) : (lampOff s).rinse = s.rinse := rfl
@[simp] theorem lampOff_pacing (s : State) : (lampOff s).pacing = s.pacing := rfl
@[simp] theorem lampOff_outbox (s : State) : (lampOff s).outbox = s.outbox := rfl
@[simp] theorem lampOff_registry (s : State) : (lampOff s).registry = s.registry := rfl
@[simp] theorem lampOff_returns (s : State) : (lampOff s).returns = s.returns := rfl
@[simp] theorem lampOff_tray (s : State) : (lampOff s).tray = s.tray := rfl
@[simp] theorem lampOff_sup (s : State) : (lampOff s).sup = s.sup := rfl
@[simp] theorem lampOff_link (s : State) : (lampOff s).link = s.link := rfl
@[simp] theorem lampOff_settings (s : State) : (lampOff s).settings = s.settings := rfl
@[simp] theorem lampOff_store (s : State) : (lampOff s).store = s.store := rfl
@[simp] theorem lampOff_freeIndex (s : State) : (lampOff s).freeIndex = s.freeIndex := rfl
@[simp] theorem lampOff_pending (s : State) : (lampOff s).pending = s.pending := rfl

/-! `removeEnRoute` changes `returns` only. -/
@[simp] theorem removeEnRoute_belt (s : State) (r : Rack) : (removeEnRoute s r).belt = s.belt := rfl
@[simp] theorem removeEnRoute_inputs (s : State) (r : Rack) : (removeEnRoute s r).inputs = s.inputs := rfl
@[simp] theorem removeEnRoute_readers (s : State) (r : Rack) : (removeEnRoute s r).readers = s.readers := rfl
@[simp] theorem removeEnRoute_stage (s : State) (r : Rack) : (removeEnRoute s r).stage = s.stage := rfl
@[simp] theorem removeEnRoute_tunnel (s : State) (r : Rack) : (removeEnRoute s r).tunnel = s.tunnel := rfl
@[simp] theorem removeEnRoute_rinse (s : State) (r : Rack) : (removeEnRoute s r).rinse = s.rinse := rfl
@[simp] theorem removeEnRoute_pacing (s : State) (r : Rack) : (removeEnRoute s r).pacing = s.pacing := rfl
@[simp] theorem removeEnRoute_outbox (s : State) (r : Rack) : (removeEnRoute s r).outbox = s.outbox := rfl
@[simp] theorem removeEnRoute_registry (s : State) (r : Rack) : (removeEnRoute s r).registry = s.registry := rfl
@[simp] theorem removeEnRoute_tray (s : State) (r : Rack) : (removeEnRoute s r).tray = s.tray := rfl
@[simp] theorem removeEnRoute_sup (s : State) (r : Rack) : (removeEnRoute s r).sup = s.sup := rfl
@[simp] theorem removeEnRoute_link (s : State) (r : Rack) : (removeEnRoute s r).link = s.link := rfl
@[simp] theorem removeEnRoute_settings (s : State) (r : Rack) : (removeEnRoute s r).settings = s.settings := rfl
@[simp] theorem removeEnRoute_store (s : State) (r : Rack) : (removeEnRoute s r).store = s.store := rfl
@[simp] theorem removeEnRoute_freeIndex (s : State) (r : Rack) : (removeEnRoute s r).freeIndex = s.freeIndex := rfl
@[simp] theorem removeEnRoute_pending (s : State) (r : Rack) : (removeEnRoute s r).pending = s.pending := rfl

/-! `removeEntry` changes `returns` only. -/
@[simp] theorem removeEntry_belt (s : State) (i : Nat) : (removeEntry s i).belt = s.belt := rfl
@[simp] theorem removeEntry_inputs (s : State) (i : Nat) : (removeEntry s i).inputs = s.inputs := rfl
@[simp] theorem removeEntry_readers (s : State) (i : Nat) : (removeEntry s i).readers = s.readers := rfl
@[simp] theorem removeEntry_stage (s : State) (i : Nat) : (removeEntry s i).stage = s.stage := rfl
@[simp] theorem removeEntry_tunnel (s : State) (i : Nat) : (removeEntry s i).tunnel = s.tunnel := rfl
@[simp] theorem removeEntry_rinse (s : State) (i : Nat) : (removeEntry s i).rinse = s.rinse := rfl
@[simp] theorem removeEntry_pacing (s : State) (i : Nat) : (removeEntry s i).pacing = s.pacing := rfl
@[simp] theorem removeEntry_outbox (s : State) (i : Nat) : (removeEntry s i).outbox = s.outbox := rfl
@[simp] theorem removeEntry_registry (s : State) (i : Nat) : (removeEntry s i).registry = s.registry := rfl
@[simp] theorem removeEntry_tray (s : State) (i : Nat) : (removeEntry s i).tray = s.tray := rfl
@[simp] theorem removeEntry_sup (s : State) (i : Nat) : (removeEntry s i).sup = s.sup := rfl
@[simp] theorem removeEntry_link (s : State) (i : Nat) : (removeEntry s i).link = s.link := rfl
@[simp] theorem removeEntry_settings (s : State) (i : Nat) : (removeEntry s i).settings = s.settings := rfl
@[simp] theorem removeEntry_store (s : State) (i : Nat) : (removeEntry s i).store = s.store := rfl
@[simp] theorem removeEntry_freeIndex (s : State) (i : Nat) : (removeEntry s i).freeIndex = s.freeIndex := rfl
@[simp] theorem removeEntry_pending (s : State) (i : Nat) : (removeEntry s i).pending = s.pending := rfl

/-! `moveEntryOn` changes `returns` only. -/
@[simp] theorem moveEntryOn_belt (s : State) (i k : Nat) : (moveEntryOn s i k).belt = s.belt := rfl
@[simp] theorem moveEntryOn_inputs (s : State) (i k : Nat) : (moveEntryOn s i k).inputs = s.inputs := rfl
@[simp] theorem moveEntryOn_readers (s : State) (i k : Nat) : (moveEntryOn s i k).readers = s.readers := rfl
@[simp] theorem moveEntryOn_stage (s : State) (i k : Nat) : (moveEntryOn s i k).stage = s.stage := rfl
@[simp] theorem moveEntryOn_tunnel (s : State) (i k : Nat) : (moveEntryOn s i k).tunnel = s.tunnel := rfl
@[simp] theorem moveEntryOn_rinse (s : State) (i k : Nat) : (moveEntryOn s i k).rinse = s.rinse := rfl
@[simp] theorem moveEntryOn_pacing (s : State) (i k : Nat) : (moveEntryOn s i k).pacing = s.pacing := rfl
@[simp] theorem moveEntryOn_outbox (s : State) (i k : Nat) : (moveEntryOn s i k).outbox = s.outbox := rfl
@[simp] theorem moveEntryOn_registry (s : State) (i k : Nat) : (moveEntryOn s i k).registry = s.registry := rfl
@[simp] theorem moveEntryOn_tray (s : State) (i k : Nat) : (moveEntryOn s i k).tray = s.tray := rfl
@[simp] theorem moveEntryOn_sup (s : State) (i k : Nat) : (moveEntryOn s i k).sup = s.sup := rfl
@[simp] theorem moveEntryOn_link (s : State) (i k : Nat) : (moveEntryOn s i k).link = s.link := rfl
@[simp] theorem moveEntryOn_settings (s : State) (i k : Nat) : (moveEntryOn s i k).settings = s.settings := rfl
@[simp] theorem moveEntryOn_store (s : State) (i k : Nat) : (moveEntryOn s i k).store = s.store := rfl
@[simp] theorem moveEntryOn_freeIndex (s : State) (i k : Nat) : (moveEntryOn s i k).freeIndex = s.freeIndex := rfl
@[simp] theorem moveEntryOn_pending (s : State) (i k : Nat) : (moveEntryOn s i k).pending = s.pending := rfl

/-! `divertersOff` changes `returns` only. -/
@[simp] theorem divertersOff_belt (s : State) : (divertersOff s).belt = s.belt := rfl
@[simp] theorem divertersOff_inputs (s : State) : (divertersOff s).inputs = s.inputs := rfl
@[simp] theorem divertersOff_readers (s : State) : (divertersOff s).readers = s.readers := rfl
@[simp] theorem divertersOff_stage (s : State) : (divertersOff s).stage = s.stage := rfl
@[simp] theorem divertersOff_tunnel (s : State) : (divertersOff s).tunnel = s.tunnel := rfl
@[simp] theorem divertersOff_rinse (s : State) : (divertersOff s).rinse = s.rinse := rfl
@[simp] theorem divertersOff_pacing (s : State) : (divertersOff s).pacing = s.pacing := rfl
@[simp] theorem divertersOff_outbox (s : State) : (divertersOff s).outbox = s.outbox := rfl
@[simp] theorem divertersOff_registry (s : State) : (divertersOff s).registry = s.registry := rfl
@[simp] theorem divertersOff_tray (s : State) : (divertersOff s).tray = s.tray := rfl
@[simp] theorem divertersOff_sup (s : State) : (divertersOff s).sup = s.sup := rfl
@[simp] theorem divertersOff_link (s : State) : (divertersOff s).link = s.link := rfl
@[simp] theorem divertersOff_settings (s : State) : (divertersOff s).settings = s.settings := rfl
@[simp] theorem divertersOff_store (s : State) : (divertersOff s).store = s.store := rfl
@[simp] theorem divertersOff_freeIndex (s : State) : (divertersOff s).freeIndex = s.freeIndex := rfl
@[simp] theorem divertersOff_pending (s : State) : (divertersOff s).pending = s.pending := rfl

/-! `recomputeReturnBelt` changes `returns` only. -/
@[simp] theorem recomputeReturnBelt_belt (s : State) : (recomputeReturnBelt s).belt = s.belt := rfl
@[simp] theorem recomputeReturnBelt_inputs (s : State) : (recomputeReturnBelt s).inputs = s.inputs := rfl
@[simp] theorem recomputeReturnBelt_readers (s : State) : (recomputeReturnBelt s).readers = s.readers := rfl
@[simp] theorem recomputeReturnBelt_stage (s : State) : (recomputeReturnBelt s).stage = s.stage := rfl
@[simp] theorem recomputeReturnBelt_tunnel (s : State) : (recomputeReturnBelt s).tunnel = s.tunnel := rfl
@[simp] theorem recomputeReturnBelt_rinse (s : State) : (recomputeReturnBelt s).rinse = s.rinse := rfl
@[simp] theorem recomputeReturnBelt_pacing (s : State) : (recomputeReturnBelt s).pacing = s.pacing := rfl
@[simp] theorem recomputeReturnBelt_outbox (s : State) : (recomputeReturnBelt s).outbox = s.outbox := rfl
@[simp] theorem recomputeReturnBelt_registry (s : State) : (recomputeReturnBelt s).registry = s.registry := rfl
@[simp] theorem recomputeReturnBelt_tray (s : State) : (recomputeReturnBelt s).tray = s.tray := rfl
@[simp] theorem recomputeReturnBelt_sup (s : State) : (recomputeReturnBelt s).sup = s.sup := rfl
@[simp] theorem recomputeReturnBelt_link (s : State) : (recomputeReturnBelt s).link = s.link := rfl
@[simp] theorem recomputeReturnBelt_settings (s : State) : (recomputeReturnBelt s).settings = s.settings := rfl
@[simp] theorem recomputeReturnBelt_store (s : State) : (recomputeReturnBelt s).store = s.store := rfl
@[simp] theorem recomputeReturnBelt_freeIndex (s : State) : (recomputeReturnBelt s).freeIndex = s.freeIndex := rfl
@[simp] theorem recomputeReturnBelt_pending (s : State) : (recomputeReturnBelt s).pending = s.pending := rfl

/-! `setStation` changes `returns` only. -/
@[simp] theorem setStation_belt (s : State) (k : Station) (e : StationEntry) : (setStation s k e).belt = s.belt := rfl
@[simp] theorem setStation_inputs (s : State) (k : Station) (e : StationEntry) : (setStation s k e).inputs = s.inputs := rfl
@[simp] theorem setStation_readers (s : State) (k : Station) (e : StationEntry) : (setStation s k e).readers = s.readers := rfl
@[simp] theorem setStation_stage (s : State) (k : Station) (e : StationEntry) : (setStation s k e).stage = s.stage := rfl
@[simp] theorem setStation_tunnel (s : State) (k : Station) (e : StationEntry) : (setStation s k e).tunnel = s.tunnel := rfl
@[simp] theorem setStation_rinse (s : State) (k : Station) (e : StationEntry) : (setStation s k e).rinse = s.rinse := rfl
@[simp] theorem setStation_pacing (s : State) (k : Station) (e : StationEntry) : (setStation s k e).pacing = s.pacing := rfl
@[simp] theorem setStation_outbox (s : State) (k : Station) (e : StationEntry) : (setStation s k e).outbox = s.outbox := rfl
@[simp] theorem setStation_registry (s : State) (k : Station) (e : StationEntry) : (setStation s k e).registry = s.registry := rfl
@[simp] theorem setStation_tray (s : State) (k : Station) (e : StationEntry) : (setStation s k e).tray = s.tray := rfl
@[simp] theorem setStation_sup (s : State) (k : Station) (e : StationEntry) : (setStation s k e).sup = s.sup := rfl
@[simp] theorem setStation_link (s : State) (k : Station) (e : StationEntry) : (setStation s k e).link = s.link := rfl
@[simp] theorem setStation_settings (s : State) (k : Station) (e : StationEntry) : (setStation s k e).settings = s.settings := rfl
@[simp] theorem setStation_store (s : State) (k : Station) (e : StationEntry) : (setStation s k e).store = s.store := rfl
@[simp] theorem setStation_freeIndex (s : State) (k : Station) (e : StationEntry) : (setStation s k e).freeIndex = s.freeIndex := rfl
@[simp] theorem setStation_pending (s : State) (k : Station) (e : StationEntry) : (setStation s k e).pending = s.pending := rfl

/-! `refreshAlertOutput` changes `sup` only. -/
@[simp] theorem refreshAlertOutput_belt (s : State) : (refreshAlertOutput s).belt = s.belt := rfl
@[simp] theorem refreshAlertOutput_inputs (s : State) : (refreshAlertOutput s).inputs = s.inputs := rfl
@[simp] theorem refreshAlertOutput_readers (s : State) : (refreshAlertOutput s).readers = s.readers := rfl
@[simp] theorem refreshAlertOutput_stage (s : State) : (refreshAlertOutput s).stage = s.stage := rfl
@[simp] theorem refreshAlertOutput_tunnel (s : State) : (refreshAlertOutput s).tunnel = s.tunnel := rfl
@[simp] theorem refreshAlertOutput_rinse (s : State) : (refreshAlertOutput s).rinse = s.rinse := rfl
@[simp] theorem refreshAlertOutput_pacing (s : State) : (refreshAlertOutput s).pacing = s.pacing := rfl
@[simp] theorem refreshAlertOutput_outbox (s : State) : (refreshAlertOutput s).outbox = s.outbox := rfl
@[simp] theorem refreshAlertOutput_registry (s : State) : (refreshAlertOutput s).registry = s.registry := rfl
@[simp] theorem refreshAlertOutput_returns (s : State) : (refreshAlertOutput s).returns = s.returns := rfl
@[simp] theorem refreshAlertOutput_tray (s : State) : (refreshAlertOutput s).tray = s.tray := rfl
@[simp] theorem refreshAlertOutput_link (s : State) : (refreshAlertOutput s).link = s.link := rfl
@[simp] theorem refreshAlertOutput_settings (s : State) : (refreshAlertOutput s).settings = s.settings := rfl
@[simp] theorem refreshAlertOutput_store (s : State) : (refreshAlertOutput s).store = s.store := rfl
@[simp] theorem refreshAlertOutput_freeIndex (s : State) : (refreshAlertOutput s).freeIndex = s.freeIndex := rfl
@[simp] theorem refreshAlertOutput_pending (s : State) : (refreshAlertOutput s).pending = s.pending := rfl

/-! `raiseMarked` changes `sup` only. -/
@[simp] theorem raiseMarked_belt (s : State) (k : AlertKind) (r : Option Rack) (u : Bool) : (raiseMarked s k r u).belt = s.belt := rfl
@[simp] theorem raiseMarked_inputs (s : State) (k : AlertKind) (r : Option Rack) (u : Bool) : (raiseMarked s k r u).inputs = s.inputs := rfl
@[simp] theorem raiseMarked_readers (s : State) (k : AlertKind) (r : Option Rack) (u : Bool) : (raiseMarked s k r u).readers = s.readers := rfl
@[simp] theorem raiseMarked_stage (s : State) (k : AlertKind) (r : Option Rack) (u : Bool) : (raiseMarked s k r u).stage = s.stage := rfl
@[simp] theorem raiseMarked_tunnel (s : State) (k : AlertKind) (r : Option Rack) (u : Bool) : (raiseMarked s k r u).tunnel = s.tunnel := rfl
@[simp] theorem raiseMarked_rinse (s : State) (k : AlertKind) (r : Option Rack) (u : Bool) : (raiseMarked s k r u).rinse = s.rinse := rfl
@[simp] theorem raiseMarked_pacing (s : State) (k : AlertKind) (r : Option Rack) (u : Bool) : (raiseMarked s k r u).pacing = s.pacing := rfl
@[simp] theorem raiseMarked_outbox (s : State) (k : AlertKind) (r : Option Rack) (u : Bool) : (raiseMarked s k r u).outbox = s.outbox := rfl
@[simp] theorem raiseMarked_registry (s : State) (k : AlertKind) (r : Option Rack) (u : Bool) : (raiseMarked s k r u).registry = s.registry := rfl
@[simp] theorem raiseMarked_returns (s : State) (k : AlertKind) (r : Option Rack) (u : Bool) : (raiseMarked s k r u).returns = s.returns := rfl
@[simp] theorem raiseMarked_tray (s : State) (k : AlertKind) (r : Option Rack) (u : Bool) : (raiseMarked s k r u).tray = s.tray := rfl
@[simp] theorem raiseMarked_link (s : State) (k : AlertKind) (r : Option Rack) (u : Bool) : (raiseMarked s k r u).link = s.link := rfl
@[simp] theorem raiseMarked_settings (s : State) (k : AlertKind) (r : Option Rack) (u : Bool) : (raiseMarked s k r u).settings = s.settings := rfl
@[simp] theorem raiseMarked_store (s : State) (k : AlertKind) (r : Option Rack) (u : Bool) : (raiseMarked s k r u).store = s.store := rfl
@[simp] theorem raiseMarked_freeIndex (s : State) (k : AlertKind) (r : Option Rack) (u : Bool) : (raiseMarked s k r u).freeIndex = s.freeIndex := rfl
@[simp] theorem raiseMarked_pending (s : State) (k : AlertKind) (r : Option Rack) (u : Bool) : (raiseMarked s k r u).pending = s.pending := rfl

/-! `raise` changes `sup` only. -/
@[simp] theorem raise_belt (s : State) (k : AlertKind) (r : Option Rack) : (raise s k r).belt = s.belt := rfl
@[simp] theorem raise_inputs (s : State) (k : AlertKind) (r : Option Rack) : (raise s k r).inputs = s.inputs := rfl
@[simp] theorem raise_readers (s : State) (k : AlertKind) (r : Option Rack) : (raise s k r).readers = s.readers := rfl
@[simp] theorem raise_stage (s : State) (k : AlertKind) (r : Option Rack) : (raise s k r).stage = s.stage := rfl
@[simp] theorem raise_tunnel (s : State) (k : AlertKind) (r : Option Rack) : (raise s k r).tunnel = s.tunnel := rfl
@[simp] theorem raise_rinse (s : State) (k : AlertKind) (r : Option Rack) : (raise s k r).rinse = s.rinse := rfl
@[simp] theorem raise_pacing (s : State) (k : AlertKind) (r : Option Rack) : (raise s k r).pacing = s.pacing := rfl
@[simp] theorem raise_outbox (s : State) (k : AlertKind) (r : Option Rack) : (raise s k r).outbox = s.outbox := rfl
@[simp] theorem raise_registry (s : State) (k : AlertKind) (r : Option Rack) : (raise s k r).registry = s.registry := rfl
@[simp] theorem raise_returns (s : State) (k : AlertKind) (r : Option Rack) : (raise s k r).returns = s.returns := rfl
@[simp] theorem raise_tray (s : State) (k : AlertKind) (r : Option Rack) : (raise s k r).tray = s.tray := rfl
@[simp] theorem raise_link (s : State) (k : AlertKind) (r : Option Rack) : (raise s k r).link = s.link := rfl
@[simp] theorem raise_settings (s : State) (k : AlertKind) (r : Option Rack) : (raise s k r).settings = s.settings := rfl
@[simp] theorem raise_store (s : State) (k : AlertKind) (r : Option Rack) : (raise s k r).store = s.store := rfl
@[simp] theorem raise_freeIndex (s : State) (k : AlertKind) (r : Option Rack) : (raise s k r).freeIndex = s.freeIndex := rfl
@[simp] theorem raise_pending (s : State) (k : AlertKind) (r : Option Rack) : (raise s k r).pending = s.pending := rfl

/-! `clearAlerts` changes `sup` only. -/
@[simp] theorem clearAlerts_belt (s : State) (ks : List AlertKind) : (clearAlerts s ks).belt = s.belt := rfl
@[simp] theorem clearAlerts_inputs (s : State) (ks : List AlertKind) : (clearAlerts s ks).inputs = s.inputs := rfl
@[simp] theorem clearAlerts_readers (s : State) (ks : List AlertKind) : (clearAlerts s ks).readers = s.readers := rfl
@[simp] theorem clearAlerts_stage (s : State) (ks : List AlertKind) : (clearAlerts s ks).stage = s.stage := rfl
@[simp] theorem clearAlerts_tunnel (s : State) (ks : List AlertKind) : (clearAlerts s ks).tunnel = s.tunnel := rfl
@[simp] theorem clearAlerts_rinse (s : State) (ks : List AlertKind) : (clearAlerts s ks).rinse = s.rinse := rfl
@[simp] theorem clearAlerts_pacing (s : State) (ks : List AlertKind) : (clearAlerts s ks).pacing = s.pacing := rfl
@[simp] theorem clearAlerts_outbox (s : State) (ks : List AlertKind) : (clearAlerts s ks).outbox = s.outbox := rfl
@[simp] theorem clearAlerts_registry (s : State) (ks : List AlertKind) : (clearAlerts s ks).registry = s.registry := rfl
@[simp] theorem clearAlerts_returns (s : State) (ks : List AlertKind) : (clearAlerts s ks).returns = s.returns := rfl
@[simp] theorem clearAlerts_tray (s : State) (ks : List AlertKind) : (clearAlerts s ks).tray = s.tray := rfl
@[simp] theorem clearAlerts_link (s : State) (ks : List AlertKind) : (clearAlerts s ks).link = s.link := rfl
@[simp] theorem clearAlerts_settings (s : State) (ks : List AlertKind) : (clearAlerts s ks).settings = s.settings := rfl
@[simp] theorem clearAlerts_store (s : State) (ks : List AlertKind) : (clearAlerts s ks).store = s.store := rfl
@[simp] theorem clearAlerts_freeIndex (s : State) (ks : List AlertKind) : (clearAlerts s ks).freeIndex = s.freeIndex := rfl
@[simp] theorem clearAlerts_pending (s : State) (ks : List AlertKind) : (clearAlerts s ks).pending = s.pending := rfl

/-! `setMask` changes `sup` only. -/
@[simp] theorem setMask_belt (s : State) (m : Vector Bool 20) : (setMask s m).belt = s.belt := rfl
@[simp] theorem setMask_inputs (s : State) (m : Vector Bool 20) : (setMask s m).inputs = s.inputs := rfl
@[simp] theorem setMask_readers (s : State) (m : Vector Bool 20) : (setMask s m).readers = s.readers := rfl
@[simp] theorem setMask_stage (s : State) (m : Vector Bool 20) : (setMask s m).stage = s.stage := rfl
@[simp] theorem setMask_tunnel (s : State) (m : Vector Bool 20) : (setMask s m).tunnel = s.tunnel := rfl
@[simp] theorem setMask_rinse (s : State) (m : Vector Bool 20) : (setMask s m).rinse = s.rinse := rfl
@[simp] theorem setMask_pacing (s : State) (m : Vector Bool 20) : (setMask s m).pacing = s.pacing := rfl
@[simp] theorem setMask_outbox (s : State) (m : Vector Bool 20) : (setMask s m).outbox = s.outbox := rfl
@[simp] theorem setMask_registry (s : State) (m : Vector Bool 20) : (setMask s m).registry = s.registry := rfl
@[simp] theorem setMask_returns (s : State) (m : Vector Bool 20) : (setMask s m).returns = s.returns := rfl
@[simp] theorem setMask_tray (s : State) (m : Vector Bool 20) : (setMask s m).tray = s.tray := rfl
@[simp] theorem setMask_link (s : State) (m : Vector Bool 20) : (setMask s m).link = s.link := rfl
@[simp] theorem setMask_settings (s : State) (m : Vector Bool 20) : (setMask s m).settings = s.settings := rfl
@[simp] theorem setMask_store (s : State) (m : Vector Bool 20) : (setMask s m).store = s.store := rfl
@[simp] theorem setMask_freeIndex (s : State) (m : Vector Bool 20) : (setMask s m).freeIndex = s.freeIndex := rfl
@[simp] theorem setMask_pending (s : State) (m : Vector Bool 20) : (setMask s m).pending = s.pending := rfl

/-! `endStoreOp` changes `sup` only. -/
@[simp] theorem endStoreOp_belt (s : State) : (endStoreOp s).belt = s.belt := rfl
@[simp] theorem endStoreOp_inputs (s : State) : (endStoreOp s).inputs = s.inputs := rfl
@[simp] theorem endStoreOp_readers (s : State) : (endStoreOp s).readers = s.readers := rfl
@[simp] theorem endStoreOp_stage (s : State) : (endStoreOp s).stage = s.stage := rfl
@[simp] theorem endStoreOp_tunnel (s : State) : (endStoreOp s).tunnel = s.tunnel := rfl
@[simp] theorem endStoreOp_rinse (s : State) : (endStoreOp s).rinse = s.rinse := rfl
@[simp] theorem endStoreOp_pacing (s : State) : (endStoreOp s).pacing = s.pacing := rfl
@[simp] theorem endStoreOp_outbox (s : State) : (endStoreOp s).outbox = s.outbox := rfl
@[simp] theorem endStoreOp_registry (s : State) : (endStoreOp s).registry = s.registry := rfl
@[simp] theorem endStoreOp_returns (s : State) : (endStoreOp s).returns = s.returns := rfl
@[simp] theorem endStoreOp_tray (s : State) : (endStoreOp s).tray = s.tray := rfl
@[simp] theorem endStoreOp_link (s : State) : (endStoreOp s).link = s.link := rfl
@[simp] theorem endStoreOp_settings (s : State) : (endStoreOp s).settings = s.settings := rfl
@[simp] theorem endStoreOp_store (s : State) : (endStoreOp s).store = s.store := rfl
@[simp] theorem endStoreOp_freeIndex (s : State) : (endStoreOp s).freeIndex = s.freeIndex := rfl
@[simp] theorem endStoreOp_pending (s : State) : (endStoreOp s).pending = s.pending := rfl

/-! `beltOn` changes `belt` and `pacing` only. -/
@[simp] theorem beltOn_inputs (s : State) : (beltOn s).inputs = s.inputs := rfl
@[simp] theorem beltOn_readers (s : State) : (beltOn s).readers = s.readers := rfl
@[simp] theorem beltOn_stage (s : State) : (beltOn s).stage = s.stage := rfl
@[simp] theorem beltOn_tunnel (s : State) : (beltOn s).tunnel = s.tunnel := rfl
@[simp] theorem beltOn_rinse (s : State) : (beltOn s).rinse = s.rinse := rfl
@[simp] theorem beltOn_outbox (s : State) : (beltOn s).outbox = s.outbox := rfl
@[simp] theorem beltOn_registry (s : State) : (beltOn s).registry = s.registry := rfl
@[simp] theorem beltOn_returns (s : State) : (beltOn s).returns = s.returns := rfl
@[simp] theorem beltOn_tray (s : State) : (beltOn s).tray = s.tray := rfl
@[simp] theorem beltOn_sup (s : State) : (beltOn s).sup = s.sup := rfl
@[simp] theorem beltOn_link (s : State) : (beltOn s).link = s.link := rfl
@[simp] theorem beltOn_settings (s : State) : (beltOn s).settings = s.settings := rfl
@[simp] theorem beltOn_store (s : State) : (beltOn s).store = s.store := rfl
@[simp] theorem beltOn_freeIndex (s : State) : (beltOn s).freeIndex = s.freeIndex := rfl
@[simp] theorem beltOn_pending (s : State) : (beltOn s).pending = s.pending := rfl

/-! `beltOff` changes `belt` and `pacing` only. -/
@[simp] theorem beltOff_inputs (s : State) : (beltOff s).inputs = s.inputs := rfl
@[simp] theorem beltOff_readers (s : State) : (beltOff s).readers = s.readers := rfl
@[simp] theorem beltOff_stage (s : State) : (beltOff s).stage = s.stage := rfl
@[simp] theorem beltOff_tunnel (s : State) : (beltOff s).tunnel = s.tunnel := rfl
@[simp] theorem beltOff_rinse (s : State) : (beltOff s).rinse = s.rinse := rfl
@[simp] theorem beltOff_outbox (s : State) : (beltOff s).outbox = s.outbox := rfl
@[simp] theorem beltOff_registry (s : State) : (beltOff s).registry = s.registry := rfl
@[simp] theorem beltOff_returns (s : State) : (beltOff s).returns = s.returns := rfl
@[simp] theorem beltOff_tray (s : State) : (beltOff s).tray = s.tray := rfl
@[simp] theorem beltOff_sup (s : State) : (beltOff s).sup = s.sup := rfl
@[simp] theorem beltOff_link (s : State) : (beltOff s).link = s.link := rfl
@[simp] theorem beltOff_settings (s : State) : (beltOff s).settings = s.settings := rfl
@[simp] theorem beltOff_store (s : State) : (beltOff s).store = s.store := rfl
@[simp] theorem beltOff_freeIndex (s : State) : (beltOff s).freeIndex = s.freeIndex := rfl
@[simp] theorem beltOff_pending (s : State) : (beltOff s).pending = s.pending := rfl

/-! `reportLineHeld` changes `sup` and `tray` only. -/
@[simp] theorem reportLineHeld_belt (s : State) (b : Bool) : (reportLineHeld s b).belt = s.belt := rfl
@[simp] theorem reportLineHeld_inputs (s : State) (b : Bool) : (reportLineHeld s b).inputs = s.inputs := rfl
@[simp] theorem reportLineHeld_readers (s : State) (b : Bool) : (reportLineHeld s b).readers = s.readers := rfl
@[simp] theorem reportLineHeld_stage (s : State) (b : Bool) : (reportLineHeld s b).stage = s.stage := rfl
@[simp] theorem reportLineHeld_tunnel (s : State) (b : Bool) : (reportLineHeld s b).tunnel = s.tunnel := rfl
@[simp] theorem reportLineHeld_rinse (s : State) (b : Bool) : (reportLineHeld s b).rinse = s.rinse := rfl
@[simp] theorem reportLineHeld_pacing (s : State) (b : Bool) : (reportLineHeld s b).pacing = s.pacing := rfl
@[simp] theorem reportLineHeld_outbox (s : State) (b : Bool) : (reportLineHeld s b).outbox = s.outbox := rfl
@[simp] theorem reportLineHeld_registry (s : State) (b : Bool) : (reportLineHeld s b).registry = s.registry := rfl
@[simp] theorem reportLineHeld_returns (s : State) (b : Bool) : (reportLineHeld s b).returns = s.returns := rfl
@[simp] theorem reportLineHeld_link (s : State) (b : Bool) : (reportLineHeld s b).link = s.link := rfl
@[simp] theorem reportLineHeld_settings (s : State) (b : Bool) : (reportLineHeld s b).settings = s.settings := rfl
@[simp] theorem reportLineHeld_store (s : State) (b : Bool) : (reportLineHeld s b).store = s.store := rfl
@[simp] theorem reportLineHeld_freeIndex (s : State) (b : Bool) : (reportLineHeld s b).freeIndex = s.freeIndex := rfl
@[simp] theorem reportLineHeld_pending (s : State) (b : Bool) : (reportLineHeld s b).pending = s.pending := rfl

/-! `setDemand` changes `pacing` only. -/
@[simp] theorem setDemand_belt (s : State) (d : Nat) : (setDemand s d).belt = s.belt := rfl
@[simp] theorem setDemand_inputs (s : State) (d : Nat) : (setDemand s d).inputs = s.inputs := rfl
@[simp] theorem setDemand_readers (s : State) (d : Nat) : (setDemand s d).readers = s.readers := rfl
@[simp] theorem setDemand_stage (s : State) (d : Nat) : (setDemand s d).stage = s.stage := rfl
@[simp] theorem setDemand_tunnel (s : State) (d : Nat) : (setDemand s d).tunnel = s.tunnel := rfl
@[simp] theorem setDemand_rinse (s : State) (d : Nat) : (setDemand s d).rinse = s.rinse := rfl
@[simp] theorem setDemand_outbox (s : State) (d : Nat) : (setDemand s d).outbox = s.outbox := rfl
@[simp] theorem setDemand_registry (s : State) (d : Nat) : (setDemand s d).registry = s.registry := rfl
@[simp] theorem setDemand_returns (s : State) (d : Nat) : (setDemand s d).returns = s.returns := rfl
@[simp] theorem setDemand_tray (s : State) (d : Nat) : (setDemand s d).tray = s.tray := rfl
@[simp] theorem setDemand_sup (s : State) (d : Nat) : (setDemand s d).sup = s.sup := rfl
@[simp] theorem setDemand_link (s : State) (d : Nat) : (setDemand s d).link = s.link := rfl
@[simp] theorem setDemand_settings (s : State) (d : Nat) : (setDemand s d).settings = s.settings := rfl
@[simp] theorem setDemand_store (s : State) (d : Nat) : (setDemand s d).store = s.store := rfl
@[simp] theorem setDemand_freeIndex (s : State) (d : Nat) : (setDemand s d).freeIndex = s.freeIndex := rfl
@[simp] theorem setDemand_pending (s : State) (d : Nat) : (setDemand s d).pending = s.pending := rfl

/-! `appendTunnelRecord` changes `tunnel` and `pacing` only. -/
@[simp] theorem appendTunnelRecord_belt (s : State) (r : TunnelRecord) : (appendTunnelRecord s r).belt = s.belt := rfl
@[simp] theorem appendTunnelRecord_inputs (s : State) (r : TunnelRecord) : (appendTunnelRecord s r).inputs = s.inputs := rfl
@[simp] theorem appendTunnelRecord_readers (s : State) (r : TunnelRecord) : (appendTunnelRecord s r).readers = s.readers := rfl
@[simp] theorem appendTunnelRecord_stage (s : State) (r : TunnelRecord) : (appendTunnelRecord s r).stage = s.stage := rfl
@[simp] theorem appendTunnelRecord_rinse (s : State) (r : TunnelRecord) : (appendTunnelRecord s r).rinse = s.rinse := rfl
@[simp] theorem appendTunnelRecord_outbox (s : State) (r : TunnelRecord) : (appendTunnelRecord s r).outbox = s.outbox := rfl
@[simp] theorem appendTunnelRecord_registry (s : State) (r : TunnelRecord) : (appendTunnelRecord s r).registry = s.registry := rfl
@[simp] theorem appendTunnelRecord_returns (s : State) (r : TunnelRecord) : (appendTunnelRecord s r).returns = s.returns := rfl
@[simp] theorem appendTunnelRecord_tray (s : State) (r : TunnelRecord) : (appendTunnelRecord s r).tray = s.tray := rfl
@[simp] theorem appendTunnelRecord_sup (s : State) (r : TunnelRecord) : (appendTunnelRecord s r).sup = s.sup := rfl
@[simp] theorem appendTunnelRecord_link (s : State) (r : TunnelRecord) : (appendTunnelRecord s r).link = s.link := rfl
@[simp] theorem appendTunnelRecord_settings (s : State) (r : TunnelRecord) : (appendTunnelRecord s r).settings = s.settings := rfl
@[simp] theorem appendTunnelRecord_store (s : State) (r : TunnelRecord) : (appendTunnelRecord s r).store = s.store := rfl
@[simp] theorem appendTunnelRecord_freeIndex (s : State) (r : TunnelRecord) : (appendTunnelRecord s r).freeIndex = s.freeIndex := rfl
@[simp] theorem appendTunnelRecord_pending (s : State) (r : TunnelRecord) : (appendTunnelRecord s r).pending = s.pending := rfl

/-! `traysAtModeChange` changes `tray` only. -/
@[simp] theorem traysAtModeChange_belt (m : LineMode) (s : State) : (traysAtModeChange m s).belt = s.belt := rfl
@[simp] theorem traysAtModeChange_inputs (m : LineMode) (s : State) : (traysAtModeChange m s).inputs = s.inputs := rfl
@[simp] theorem traysAtModeChange_readers (m : LineMode) (s : State) : (traysAtModeChange m s).readers = s.readers := rfl
@[simp] theorem traysAtModeChange_stage (m : LineMode) (s : State) : (traysAtModeChange m s).stage = s.stage := rfl
@[simp] theorem traysAtModeChange_tunnel (m : LineMode) (s : State) : (traysAtModeChange m s).tunnel = s.tunnel := rfl
@[simp] theorem traysAtModeChange_rinse (m : LineMode) (s : State) : (traysAtModeChange m s).rinse = s.rinse := rfl
@[simp] theorem traysAtModeChange_pacing (m : LineMode) (s : State) : (traysAtModeChange m s).pacing = s.pacing := rfl
@[simp] theorem traysAtModeChange_outbox (m : LineMode) (s : State) : (traysAtModeChange m s).outbox = s.outbox := rfl
@[simp] theorem traysAtModeChange_registry (m : LineMode) (s : State) : (traysAtModeChange m s).registry = s.registry := rfl
@[simp] theorem traysAtModeChange_returns (m : LineMode) (s : State) : (traysAtModeChange m s).returns = s.returns := rfl
@[simp] theorem traysAtModeChange_sup (m : LineMode) (s : State) : (traysAtModeChange m s).sup = s.sup := rfl
@[simp] theorem traysAtModeChange_link (m : LineMode) (s : State) : (traysAtModeChange m s).link = s.link := rfl
@[simp] theorem traysAtModeChange_settings (m : LineMode) (s : State) : (traysAtModeChange m s).settings = s.settings := rfl
@[simp] theorem traysAtModeChange_store (m : LineMode) (s : State) : (traysAtModeChange m s).store = s.store := rfl
@[simp] theorem traysAtModeChange_freeIndex (m : LineMode) (s : State) : (traysAtModeChange m s).freeIndex = s.freeIndex := rfl
@[simp] theorem traysAtModeChange_pending (m : LineMode) (s : State) : (traysAtModeChange m s).pending = s.pending := rfl

/-! `setCongestion` changes `tray` only. -/
@[simp] theorem setCongestion_belt (s : State) (n : Nat) : (setCongestion s n).belt = s.belt := rfl
@[simp] theorem setCongestion_inputs (s : State) (n : Nat) : (setCongestion s n).inputs = s.inputs := rfl
@[simp] theorem setCongestion_readers (s : State) (n : Nat) : (setCongestion s n).readers = s.readers := rfl
@[simp] theorem setCongestion_stage (s : State) (n : Nat) : (setCongestion s n).stage = s.stage := rfl
@[simp] theorem setCongestion_tunnel (s : State) (n : Nat) : (setCongestion s n).tunnel = s.tunnel := rfl
@[simp] theorem setCongestion_rinse (s : State) (n : Nat) : (setCongestion s n).rinse = s.rinse := rfl
@[simp] theorem setCongestion_pacing (s : State) (n : Nat) : (setCongestion s n).pacing = s.pacing := rfl
@[simp] theorem setCongestion_outbox (s : State) (n : Nat) : (setCongestion s n).outbox = s.outbox := rfl
@[simp] theorem setCongestion_registry (s : State) (n : Nat) : (setCongestion s n).registry = s.registry := rfl
@[simp] theorem setCongestion_returns (s : State) (n : Nat) : (setCongestion s n).returns = s.returns := rfl
@[simp] theorem setCongestion_sup (s : State) (n : Nat) : (setCongestion s n).sup = s.sup := rfl
@[simp] theorem setCongestion_link (s : State) (n : Nat) : (setCongestion s n).link = s.link := rfl
@[simp] theorem setCongestion_settings (s : State) (n : Nat) : (setCongestion s n).settings = s.settings := rfl
@[simp] theorem setCongestion_store (s : State) (n : Nat) : (setCongestion s n).store = s.store := rfl
@[simp] theorem setCongestion_freeIndex (s : State) (n : Nat) : (setCongestion s n).freeIndex = s.freeIndex := rfl
@[simp] theorem setCongestion_pending (s : State) (n : Nat) : (setCongestion s n).pending = s.pending := rfl

/-! `limitHoldCounts` changes `tray` only. -/
@[simp] theorem limitHoldCounts_belt (s : State) : (limitHoldCounts s).belt = s.belt := rfl
@[simp] theorem limitHoldCounts_inputs (s : State) : (limitHoldCounts s).inputs = s.inputs := rfl
@[simp] theorem limitHoldCounts_readers (s : State) : (limitHoldCounts s).readers = s.readers := rfl
@[simp] theorem limitHoldCounts_stage (s : State) : (limitHoldCounts s).stage = s.stage := rfl
@[simp] theorem limitHoldCounts_tunnel (s : State) : (limitHoldCounts s).tunnel = s.tunnel := rfl
@[simp] theorem limitHoldCounts_rinse (s : State) : (limitHoldCounts s).rinse = s.rinse := rfl
@[simp] theorem limitHoldCounts_pacing (s : State) : (limitHoldCounts s).pacing = s.pacing := rfl
@[simp] theorem limitHoldCounts_outbox (s : State) : (limitHoldCounts s).outbox = s.outbox := rfl
@[simp] theorem limitHoldCounts_registry (s : State) : (limitHoldCounts s).registry = s.registry := rfl
@[simp] theorem limitHoldCounts_returns (s : State) : (limitHoldCounts s).returns = s.returns := rfl
@[simp] theorem limitHoldCounts_sup (s : State) : (limitHoldCounts s).sup = s.sup := rfl
@[simp] theorem limitHoldCounts_link (s : State) : (limitHoldCounts s).link = s.link := rfl
@[simp] theorem limitHoldCounts_settings (s : State) : (limitHoldCounts s).settings = s.settings := rfl
@[simp] theorem limitHoldCounts_store (s : State) : (limitHoldCounts s).store = s.store := rfl
@[simp] theorem limitHoldCounts_freeIndex (s : State) : (limitHoldCounts s).freeIndex = s.freeIndex := rfl
@[simp] theorem limitHoldCounts_pending (s : State) : (limitHoldCounts s).pending = s.pending := rfl

/-! `clearAccumulators` changes `belt` only. -/
@[simp] theorem clearAccumulators_inputs (s : State) : (clearAccumulators s).inputs = s.inputs := rfl
@[simp] theorem clearAccumulators_readers (s : State) : (clearAccumulators s).readers = s.readers := rfl
@[simp] theorem clearAccumulators_stage (s : State) : (clearAccumulators s).stage = s.stage := rfl
@[simp] theorem clearAccumulators_tunnel (s : State) : (clearAccumulators s).tunnel = s.tunnel := rfl
@[simp] theorem clearAccumulators_rinse (s : State) : (clearAccumulators s).rinse = s.rinse := rfl
@[simp] theorem clearAccumulators_pacing (s : State) : (clearAccumulators s).pacing = s.pacing := rfl
@[simp] theorem clearAccumulators_outbox (s : State) : (clearAccumulators s).outbox = s.outbox := rfl
@[simp] theorem clearAccumulators_registry (s : State) : (clearAccumulators s).registry = s.registry := rfl
@[simp] theorem clearAccumulators_returns (s : State) : (clearAccumulators s).returns = s.returns := rfl
@[simp] theorem clearAccumulators_tray (s : State) : (clearAccumulators s).tray = s.tray := rfl
@[simp] theorem clearAccumulators_sup (s : State) : (clearAccumulators s).sup = s.sup := rfl
@[simp] theorem clearAccumulators_link (s : State) : (clearAccumulators s).link = s.link := rfl
@[simp] theorem clearAccumulators_settings (s : State) : (clearAccumulators s).settings = s.settings := rfl
@[simp] theorem clearAccumulators_store (s : State) : (clearAccumulators s).store = s.store := rfl
@[simp] theorem clearAccumulators_freeIndex (s : State) : (clearAccumulators s).freeIndex = s.freeIndex := rfl
@[simp] theorem clearAccumulators_pending (s : State) : (clearAccumulators s).pending = s.pending := rfl

/-! `advanceOdometer` changes `belt` only. -/
@[simp] theorem advanceOdometer_inputs (s : State) : (advanceOdometer s).inputs = s.inputs := rfl
@[simp] theorem advanceOdometer_readers (s : State) : (advanceOdometer s).readers = s.readers := rfl
@[simp] theorem advanceOdometer_stage (s : State) : (advanceOdometer s).stage = s.stage := rfl
@[simp] theorem advanceOdometer_tunnel (s : State) : (advanceOdometer s).tunnel = s.tunnel := rfl
@[simp] theorem advanceOdometer_rinse (s : State) : (advanceOdometer s).rinse = s.rinse := rfl
@[simp] theorem advanceOdometer_pacing (s : State) : (advanceOdometer s).pacing = s.pacing := rfl
@[simp] theorem advanceOdometer_outbox (s : State) : (advanceOdometer s).outbox = s.outbox := rfl
@[simp] theorem advanceOdometer_registry (s : State) : (advanceOdometer s).registry = s.registry := rfl
@[simp] theorem advanceOdometer_returns (s : State) : (advanceOdometer s).returns = s.returns := rfl
@[simp] theorem advanceOdometer_tray (s : State) : (advanceOdometer s).tray = s.tray := rfl
@[simp] theorem advanceOdometer_sup (s : State) : (advanceOdometer s).sup = s.sup := rfl
@[simp] theorem advanceOdometer_link (s : State) : (advanceOdometer s).link = s.link := rfl
@[simp] theorem advanceOdometer_settings (s : State) : (advanceOdometer s).settings = s.settings := rfl
@[simp] theorem advanceOdometer_store (s : State) : (advanceOdometer s).store = s.store := rfl
@[simp] theorem advanceOdometer_freeIndex (s : State) : (advanceOdometer s).freeIndex = s.freeIndex := rfl
@[simp] theorem advanceOdometer_pending (s : State) : (advanceOdometer s).pending = s.pending := rfl

/-! `dropRecords` changes `outbox` only. -/
@[simp] theorem dropRecords_belt (s : State) (n : Nat) : (dropRecords s n).belt = s.belt := rfl
@[simp] theorem dropRecords_inputs (s : State) (n : Nat) : (dropRecords s n).inputs = s.inputs := rfl
@[simp] theorem dropRecords_readers (s : State) (n : Nat) : (dropRecords s n).readers = s.readers := rfl
@[simp] theorem dropRecords_stage (s : State) (n : Nat) : (dropRecords s n).stage = s.stage := rfl
@[simp] theorem dropRecords_tunnel (s : State) (n : Nat) : (dropRecords s n).tunnel = s.tunnel := rfl
@[simp] theorem dropRecords_rinse (s : State) (n : Nat) : (dropRecords s n).rinse = s.rinse := rfl
@[simp] theorem dropRecords_pacing (s : State) (n : Nat) : (dropRecords s n).pacing = s.pacing := rfl
@[simp] theorem dropRecords_registry (s : State) (n : Nat) : (dropRecords s n).registry = s.registry := rfl
@[simp] theorem dropRecords_returns (s : State) (n : Nat) : (dropRecords s n).returns = s.returns := rfl
@[simp] theorem dropRecords_tray (s : State) (n : Nat) : (dropRecords s n).tray = s.tray := rfl
@[simp] theorem dropRecords_sup (s : State) (n : Nat) : (dropRecords s n).sup = s.sup := rfl
@[simp] theorem dropRecords_link (s : State) (n : Nat) : (dropRecords s n).link = s.link := rfl
@[simp] theorem dropRecords_settings (s : State) (n : Nat) : (dropRecords s n).settings = s.settings := rfl
@[simp] theorem dropRecords_store (s : State) (n : Nat) : (dropRecords s n).store = s.store := rfl
@[simp] theorem dropRecords_freeIndex (s : State) (n : Nat) : (dropRecords s n).freeIndex = s.freeIndex := rfl
@[simp] theorem dropRecords_pending (s : State) (n : Nat) : (dropRecords s n).pending = s.pending := rfl

/-! `loadRegistry` changes `registry` only. -/
@[simp] theorem loadRegistry_belt (s : State) (i : StoreImage) : (loadRegistry s i).belt = s.belt := rfl
@[simp] theorem loadRegistry_inputs (s : State) (i : StoreImage) : (loadRegistry s i).inputs = s.inputs := rfl
@[simp] theorem loadRegistry_readers (s : State) (i : StoreImage) : (loadRegistry s i).readers = s.readers := rfl
@[simp] theorem loadRegistry_stage (s : State) (i : StoreImage) : (loadRegistry s i).stage = s.stage := rfl
@[simp] theorem loadRegistry_tunnel (s : State) (i : StoreImage) : (loadRegistry s i).tunnel = s.tunnel := rfl
@[simp] theorem loadRegistry_rinse (s : State) (i : StoreImage) : (loadRegistry s i).rinse = s.rinse := rfl
@[simp] theorem loadRegistry_pacing (s : State) (i : StoreImage) : (loadRegistry s i).pacing = s.pacing := rfl
@[simp] theorem loadRegistry_outbox (s : State) (i : StoreImage) : (loadRegistry s i).outbox = s.outbox := rfl
@[simp] theorem loadRegistry_returns (s : State) (i : StoreImage) : (loadRegistry s i).returns = s.returns := rfl
@[simp] theorem loadRegistry_tray (s : State) (i : StoreImage) : (loadRegistry s i).tray = s.tray := rfl
@[simp] theorem loadRegistry_sup (s : State) (i : StoreImage) : (loadRegistry s i).sup = s.sup := rfl
@[simp] theorem loadRegistry_link (s : State) (i : StoreImage) : (loadRegistry s i).link = s.link := rfl
@[simp] theorem loadRegistry_settings (s : State) (i : StoreImage) : (loadRegistry s i).settings = s.settings := rfl
@[simp] theorem loadRegistry_store (s : State) (i : StoreImage) : (loadRegistry s i).store = s.store := rfl
@[simp] theorem loadRegistry_freeIndex (s : State) (i : StoreImage) : (loadRegistry s i).freeIndex = s.freeIndex := rfl
@[simp] theorem loadRegistry_pending (s : State) (i : StoreImage) : (loadRegistry s i).pending = s.pending := rfl

/-! `sendReply` changes `link` only. -/
@[simp] theorem sendReply_belt (s : State) (c : Text) (r : Reply) : (sendReply s c r).belt = s.belt := rfl
@[simp] theorem sendReply_inputs (s : State) (c : Text) (r : Reply) : (sendReply s c r).inputs = s.inputs := rfl
@[simp] theorem sendReply_readers (s : State) (c : Text) (r : Reply) : (sendReply s c r).readers = s.readers := rfl
@[simp] theorem sendReply_stage (s : State) (c : Text) (r : Reply) : (sendReply s c r).stage = s.stage := rfl
@[simp] theorem sendReply_tunnel (s : State) (c : Text) (r : Reply) : (sendReply s c r).tunnel = s.tunnel := rfl
@[simp] theorem sendReply_rinse (s : State) (c : Text) (r : Reply) : (sendReply s c r).rinse = s.rinse := rfl
@[simp] theorem sendReply_pacing (s : State) (c : Text) (r : Reply) : (sendReply s c r).pacing = s.pacing := rfl
@[simp] theorem sendReply_outbox (s : State) (c : Text) (r : Reply) : (sendReply s c r).outbox = s.outbox := rfl
@[simp] theorem sendReply_registry (s : State) (c : Text) (r : Reply) : (sendReply s c r).registry = s.registry := rfl
@[simp] theorem sendReply_returns (s : State) (c : Text) (r : Reply) : (sendReply s c r).returns = s.returns := rfl
@[simp] theorem sendReply_tray (s : State) (c : Text) (r : Reply) : (sendReply s c r).tray = s.tray := rfl
@[simp] theorem sendReply_sup (s : State) (c : Text) (r : Reply) : (sendReply s c r).sup = s.sup := rfl
@[simp] theorem sendReply_settings (s : State) (c : Text) (r : Reply) : (sendReply s c r).settings = s.settings := rfl
@[simp] theorem sendReply_store (s : State) (c : Text) (r : Reply) : (sendReply s c r).store = s.store := rfl
@[simp] theorem sendReply_freeIndex (s : State) (c : Text) (r : Reply) : (sendReply s c r).freeIndex = s.freeIndex := rfl
@[simp] theorem sendReply_pending (s : State) (c : Text) (r : Reply) : (sendReply s c r).pending = s.pending := rfl

/-! `endReads` changes `readers` only. -/
@[simp] theorem endReads_belt (s : State) : (endReads s).belt = s.belt := rfl
@[simp] theorem endReads_inputs (s : State) : (endReads s).inputs = s.inputs := rfl
@[simp] theorem endReads_stage (s : State) : (endReads s).stage = s.stage := rfl
@[simp] theorem endReads_tunnel (s : State) : (endReads s).tunnel = s.tunnel := rfl
@[simp] theorem endReads_rinse (s : State) : (endReads s).rinse = s.rinse := rfl
@[simp] theorem endReads_pacing (s : State) : (endReads s).pacing = s.pacing := rfl
@[simp] theorem endReads_outbox (s : State) : (endReads s).outbox = s.outbox := rfl
@[simp] theorem endReads_registry (s : State) : (endReads s).registry = s.registry := rfl
@[simp] theorem endReads_returns (s : State) : (endReads s).returns = s.returns := rfl
@[simp] theorem endReads_tray (s : State) : (endReads s).tray = s.tray := rfl
@[simp] theorem endReads_sup (s : State) : (endReads s).sup = s.sup := rfl
@[simp] theorem endReads_link (s : State) : (endReads s).link = s.link := rfl
@[simp] theorem endReads_settings (s : State) : (endReads s).settings = s.settings := rfl
@[simp] theorem endReads_store (s : State) : (endReads s).store = s.store := rfl
@[simp] theorem endReads_freeIndex (s : State) : (endReads s).freeIndex = s.freeIndex := rfl
@[simp] theorem endReads_pending (s : State) : (endReads s).pending = s.pending := rfl

end Sys2Proof.Laws
end

