-- ==== Sys2Proof/Laws/Frames.lean ====
section
/-! SUPPORT. What each operation leaves alone: one lemma for each operation, a conjunction of the blocks, and of the
fields of a block, that it does not change. `simp` takes every part of it as a rule of its own. -/

namespace Sys2Proof.Laws

open Sys2Proof.Machine

@[simp] theorem setReader_frame (s : State) (r : Reader) (c : ReaderChannel) :
    (setReader s r c).belt = s.belt ∧
    (setReader s r c).inputs = s.inputs ∧
    (setReader s r c).stage = s.stage ∧
    (setReader s r c).tunnel = s.tunnel ∧
    (setReader s r c).rinse = s.rinse ∧
    (setReader s r c).pacing = s.pacing ∧
    (setReader s r c).outbox = s.outbox ∧
    (setReader s r c).registry = s.registry ∧
    (setReader s r c).returns = s.returns ∧
    (setReader s r c).tray = s.tray ∧
    (setReader s r c).sup = s.sup ∧
    (setReader s r c).link = s.link ∧
    (setReader s r c).settings = s.settings ∧
    (setReader s r c).store = s.store ∧
    (setReader s r c).freeIndex = s.freeIndex ∧
    (setReader s r c).pending = s.pending := by
  cases r <;> simp [setReader]

@[simp] theorem startRead_frame (s : State) (r : Reader) :
    (startRead s r).belt = s.belt ∧
    (startRead s r).inputs = s.inputs ∧
    (startRead s r).stage = s.stage ∧
    (startRead s r).tunnel = s.tunnel ∧
    (startRead s r).rinse = s.rinse ∧
    (startRead s r).pacing = s.pacing ∧
    (startRead s r).outbox = s.outbox ∧
    (startRead s r).registry = s.registry ∧
    (startRead s r).returns = s.returns ∧
    (startRead s r).tray = s.tray ∧
    (startRead s r).sup = s.sup ∧
    (startRead s r).link = s.link ∧
    (startRead s r).settings = s.settings ∧
    (startRead s r).store = s.store ∧
    (startRead s r).freeIndex = s.freeIndex ∧
    (startRead s r).pending = s.pending := by
  unfold startRead; split <;> simp

@[simp] theorem requestRead_frame (s : State) (r : Reader) :
    (requestRead s r).belt = s.belt ∧
    (requestRead s r).inputs = s.inputs ∧
    (requestRead s r).stage = s.stage ∧
    (requestRead s r).tunnel = s.tunnel ∧
    (requestRead s r).rinse = s.rinse ∧
    (requestRead s r).pacing = s.pacing ∧
    (requestRead s r).outbox = s.outbox ∧
    (requestRead s r).registry = s.registry ∧
    (requestRead s r).returns = s.returns ∧
    (requestRead s r).tray = s.tray ∧
    (requestRead s r).sup = s.sup ∧
    (requestRead s r).link = s.link ∧
    (requestRead s r).settings = s.settings ∧
    (requestRead s r).store = s.store ∧
    (requestRead s r).freeIndex = s.freeIndex ∧
    (requestRead s r).pending = s.pending := by
  unfold requestRead; split <;> simp

@[simp] theorem abandonRead_frame (s : State) (r : Reader) :
    (abandonRead s r).belt = s.belt ∧
    (abandonRead s r).inputs = s.inputs ∧
    (abandonRead s r).stage = s.stage ∧
    (abandonRead s r).tunnel = s.tunnel ∧
    (abandonRead s r).rinse = s.rinse ∧
    (abandonRead s r).pacing = s.pacing ∧
    (abandonRead s r).outbox = s.outbox ∧
    (abandonRead s r).registry = s.registry ∧
    (abandonRead s r).returns = s.returns ∧
    (abandonRead s r).tray = s.tray ∧
    (abandonRead s r).sup = s.sup ∧
    (abandonRead s r).link = s.link ∧
    (abandonRead s r).settings = s.settings ∧
    (abandonRead s r).store = s.store ∧
    (abandonRead s r).freeIndex = s.freeIndex ∧
    (abandonRead s r).pending = s.pending := by
  simp [abandonRead]

@[simp] theorem setPlace_frame (s : State) (r : Rack) (p : Place) :
    (setPlace s r p).belt = s.belt ∧
    (setPlace s r p).inputs = s.inputs ∧
    (setPlace s r p).readers = s.readers ∧
    (setPlace s r p).stage = s.stage ∧
    (setPlace s r p).tunnel = s.tunnel ∧
    (setPlace s r p).rinse = s.rinse ∧
    (setPlace s r p).pacing = s.pacing ∧
    (setPlace s r p).outbox = s.outbox ∧
    (setPlace s r p).returns = s.returns ∧
    (setPlace s r p).tray = s.tray ∧
    (setPlace s r p).sup = s.sup ∧
    (setPlace s r p).link = s.link ∧
    (setPlace s r p).settings = s.settings ∧
    (setPlace s r p).store = s.store ∧
    (setPlace s r p).freeIndex = s.freeIndex ∧
    (setPlace s r p).pending = s.pending := by
  unfold setPlace; split <;> simp

@[simp] theorem setPlaceOf_frame (s : State) (r : Option Rack) (p : Place) :
    (setPlaceOf s r p).belt = s.belt ∧
    (setPlaceOf s r p).inputs = s.inputs ∧
    (setPlaceOf s r p).readers = s.readers ∧
    (setPlaceOf s r p).stage = s.stage ∧
    (setPlaceOf s r p).tunnel = s.tunnel ∧
    (setPlaceOf s r p).rinse = s.rinse ∧
    (setPlaceOf s r p).pacing = s.pacing ∧
    (setPlaceOf s r p).outbox = s.outbox ∧
    (setPlaceOf s r p).returns = s.returns ∧
    (setPlaceOf s r p).tray = s.tray ∧
    (setPlaceOf s r p).sup = s.sup ∧
    (setPlaceOf s r p).link = s.link ∧
    (setPlaceOf s r p).settings = s.settings ∧
    (setPlaceOf s r p).store = s.store ∧
    (setPlaceOf s r p).freeIndex = s.freeIndex ∧
    (setPlaceOf s r p).pending = s.pending := by
  unfold setPlaceOf; split <;> simp

@[simp] theorem removeEnRouteOf_frame (s : State) (r : Option Rack) :
    (removeEnRouteOf s r).belt = s.belt ∧
    (removeEnRouteOf s r).inputs = s.inputs ∧
    (removeEnRouteOf s r).readers = s.readers ∧
    (removeEnRouteOf s r).stage = s.stage ∧
    (removeEnRouteOf s r).tunnel = s.tunnel ∧
    (removeEnRouteOf s r).rinse = s.rinse ∧
    (removeEnRouteOf s r).pacing = s.pacing ∧
    (removeEnRouteOf s r).outbox = s.outbox ∧
    (removeEnRouteOf s r).registry = s.registry ∧
    (removeEnRouteOf s r).returns.stations = s.returns.stations ∧
    (removeEnRouteOf s r).returns.pointers = s.returns.pointers ∧
    (removeEnRouteOf s r).returns.diverters = s.returns.diverters ∧
    (removeEnRouteOf s r).returns.returnBelt = s.returns.returnBelt ∧
    (removeEnRouteOf s r).tray = s.tray ∧
    (removeEnRouteOf s r).sup = s.sup ∧
    (removeEnRouteOf s r).link = s.link ∧
    (removeEnRouteOf s r).settings = s.settings ∧
    (removeEnRouteOf s r).store = s.store ∧
    (removeEnRouteOf s r).freeIndex = s.freeIndex ∧
    (removeEnRouteOf s r).pending = s.pending := by
  unfold removeEnRouteOf; split <;> simp [removeEnRoute]

@[simp] theorem leaveStop_frame (s : State) (r : Option Rack) :
    (leaveStop s r).belt = s.belt ∧
    (leaveStop s r).inputs = s.inputs ∧
    (leaveStop s r).readers = s.readers ∧
    (leaveStop s r).stage = s.stage ∧
    (leaveStop s r).tunnel = s.tunnel ∧
    (leaveStop s r).rinse = s.rinse ∧
    (leaveStop s r).pacing = s.pacing ∧
    (leaveStop s r).outbox = s.outbox ∧
    (leaveStop s r).returns.stations = s.returns.stations ∧
    (leaveStop s r).returns.pointers = s.returns.pointers ∧
    (leaveStop s r).returns.diverters = s.returns.diverters ∧
    (leaveStop s r).returns.returnBelt = s.returns.returnBelt ∧
    (leaveStop s r).tray = s.tray ∧
    (leaveStop s r).sup = s.sup ∧
    (leaveStop s r).link = s.link ∧
    (leaveStop s r).settings = s.settings ∧
    (leaveStop s r).store = s.store ∧
    (leaveStop s r).freeIndex = s.freeIndex ∧
    (leaveStop s r).pending = s.pending := by
  unfold leaveStop; split <;> (try split) <;> simp [removeEnRoute]

@[simp] theorem dropHeld_frame (s : State) (h : Option ReadOutcome) (k : Option Rack) :
    (dropHeld s h k).belt = s.belt ∧
    (dropHeld s h k).inputs = s.inputs ∧
    (dropHeld s h k).readers = s.readers ∧
    (dropHeld s h k).stage = s.stage ∧
    (dropHeld s h k).tunnel = s.tunnel ∧
    (dropHeld s h k).rinse = s.rinse ∧
    (dropHeld s h k).pacing = s.pacing ∧
    (dropHeld s h k).outbox = s.outbox ∧
    (dropHeld s h k).returns.stations = s.returns.stations ∧
    (dropHeld s h k).returns.pointers = s.returns.pointers ∧
    (dropHeld s h k).returns.diverters = s.returns.diverters ∧
    (dropHeld s h k).returns.returnBelt = s.returns.returnBelt ∧
    (dropHeld s h k).tray = s.tray ∧
    (dropHeld s h k).sup = s.sup ∧
    (dropHeld s h k).link = s.link ∧
    (dropHeld s h k).settings = s.settings ∧
    (dropHeld s h k).store = s.store ∧
    (dropHeld s h k).freeIndex = s.freeIndex ∧
    (dropHeld s h k).pending = s.pending := by
  unfold dropHeld; split <;> (try split) <;> simp

@[simp] theorem autoEnrol_frame (s : State) (o : ReadOutcome) :
    (autoEnrol s o).belt = s.belt ∧
    (autoEnrol s o).inputs = s.inputs ∧
    (autoEnrol s o).readers = s.readers ∧
    (autoEnrol s o).stage = s.stage ∧
    (autoEnrol s o).tunnel = s.tunnel ∧
    (autoEnrol s o).rinse = s.rinse ∧
    (autoEnrol s o).pacing = s.pacing ∧
    (autoEnrol s o).outbox = s.outbox ∧
    (autoEnrol s o).returns.stations = s.returns.stations ∧
    (autoEnrol s o).returns.pointers = s.returns.pointers ∧
    (autoEnrol s o).returns.diverters = s.returns.diverters ∧
    (autoEnrol s o).returns.returnBelt = s.returns.returnBelt ∧
    (autoEnrol s o).tray = s.tray ∧
    (autoEnrol s o).sup = s.sup ∧
    (autoEnrol s o).link = s.link ∧
    (autoEnrol s o).settings = s.settings ∧
    (autoEnrol s o).store = s.store ∧
    (autoEnrol s o).freeIndex = s.freeIndex ∧
    (autoEnrol s o).pending = s.pending := by
  unfold autoEnrol; split <;> (try split) <;> simp [removeEnRoute]

@[simp] theorem placeUnloaded_frame (s : State) (n : Option Rack) :
    (placeUnloaded s n).belt = s.belt ∧
    (placeUnloaded s n).inputs = s.inputs ∧
    (placeUnloaded s n).readers = s.readers ∧
    (placeUnloaded s n).stage = s.stage ∧
    (placeUnloaded s n).tunnel = s.tunnel ∧
    (placeUnloaded s n).rinse = s.rinse ∧
    (placeUnloaded s n).pacing = s.pacing ∧
    (placeUnloaded s n).outbox = s.outbox ∧
    (placeUnloaded s n).returns = s.returns ∧
    (placeUnloaded s n).tray = s.tray ∧
    (placeUnloaded s n).sup = s.sup ∧
    (placeUnloaded s n).link = s.link ∧
    (placeUnloaded s n).settings = s.settings ∧
    (placeUnloaded s n).store = s.store ∧
    (placeUnloaded s n).freeIndex = s.freeIndex ∧
    (placeUnloaded s n).pending = s.pending := by
  unfold placeUnloaded; split <;> (try split) <;> simp

@[simp] theorem updateCounted_frame (s : State) (w : WashRecord) :
    (updateCounted s w).belt = s.belt ∧
    (updateCounted s w).inputs = s.inputs ∧
    (updateCounted s w).readers = s.readers ∧
    (updateCounted s w).stage = s.stage ∧
    (updateCounted s w).tunnel = s.tunnel ∧
    (updateCounted s w).rinse = s.rinse ∧
    (updateCounted s w).pacing = s.pacing ∧
    (updateCounted s w).outbox = s.outbox ∧
    (updateCounted s w).returns = s.returns ∧
    (updateCounted s w).tray = s.tray ∧
    (updateCounted s w).sup = s.sup ∧
    (updateCounted s w).link = s.link ∧
    (updateCounted s w).settings = s.settings ∧
    (updateCounted s w).store = s.store ∧
    (updateCounted s w).freeIndex = s.freeIndex ∧
    (updateCounted s w).pending = s.pending := by
  unfold updateCounted; split <;> (try split) <;> simp

@[simp] theorem appendRecord_frame (s : State) (w : WashRecord) :
    (appendRecord s w).belt = s.belt ∧
    (appendRecord s w).inputs = s.inputs ∧
    (appendRecord s w).readers = s.readers ∧
    (appendRecord s w).stage = s.stage ∧
    (appendRecord s w).tunnel = s.tunnel ∧
    (appendRecord s w).rinse = s.rinse ∧
    (appendRecord s w).pacing = s.pacing ∧
    (appendRecord s w).registry = s.registry ∧
    (appendRecord s w).returns = s.returns ∧
    (appendRecord s w).tray = s.tray ∧
    (appendRecord s w).sup.mode = s.sup.mode ∧
    (appendRecord s w).sup.draining = s.sup.draining ∧
    (appendRecord s w).sup.runOn = s.sup.runOn ∧
    (appendRecord s w).sup.lineHeld = s.sup.lineHeld ∧
    (appendRecord s w).sup.mask = s.sup.mask ∧
    (appendRecord s w).sup.storeOp = s.sup.storeOp ∧
    (appendRecord s w).sup.lastSave = s.sup.lastSave ∧
    (appendRecord s w).link = s.link ∧
    (appendRecord s w).settings = s.settings ∧
    (appendRecord s w).store = s.store ∧
    (appendRecord s w).freeIndex = s.freeIndex ∧
    (appendRecord s w).pending = s.pending := by
  unfold appendRecord; dsimp only; split <;> simp [raise, raiseMarked, refreshAlertOutput]

@[simp] theorem fileRecord_frame (s : State) (w : WashRecord) :
    (fileRecord s w).belt = s.belt ∧
    (fileRecord s w).inputs = s.inputs ∧
    (fileRecord s w).readers = s.readers ∧
    (fileRecord s w).stage = s.stage ∧
    (fileRecord s w).tunnel = s.tunnel ∧
    (fileRecord s w).rinse = s.rinse ∧
    (fileRecord s w).pacing = s.pacing ∧
    (fileRecord s w).returns = s.returns ∧
    (fileRecord s w).tray = s.tray ∧
    (fileRecord s w).sup.mode = s.sup.mode ∧
    (fileRecord s w).sup.draining = s.sup.draining ∧
    (fileRecord s w).sup.runOn = s.sup.runOn ∧
    (fileRecord s w).sup.lineHeld = s.sup.lineHeld ∧
    (fileRecord s w).sup.mask = s.sup.mask ∧
    (fileRecord s w).sup.storeOp = s.sup.storeOp ∧
    (fileRecord s w).sup.lastSave = s.sup.lastSave ∧
    (fileRecord s w).link = s.link ∧
    (fileRecord s w).settings = s.settings ∧
    (fileRecord s w).store = s.store ∧
    (fileRecord s w).freeIndex = s.freeIndex ∧
    (fileRecord s w).pending = s.pending := by
  simp [fileRecord]

@[simp] theorem missingFiled_frame (s : State) (r : Option Rack) :
    (missingFiled s r).belt = s.belt ∧
    (missingFiled s r).inputs = s.inputs ∧
    (missingFiled s r).readers = s.readers ∧
    (missingFiled s r).stage = s.stage ∧
    (missingFiled s r).tunnel = s.tunnel ∧
    (missingFiled s r).rinse = s.rinse ∧
    (missingFiled s r).pacing = s.pacing ∧
    (missingFiled s r).outbox = s.outbox ∧
    (missingFiled s r).returns = s.returns ∧
    (missingFiled s r).tray = s.tray ∧
    (missingFiled s r).sup.mode = s.sup.mode ∧
    (missingFiled s r).sup.draining = s.sup.draining ∧
    (missingFiled s r).sup.runOn = s.sup.runOn ∧
    (missingFiled s r).sup.lineHeld = s.sup.lineHeld ∧
    (missingFiled s r).sup.mask = s.sup.mask ∧
    (missingFiled s r).sup.storeOp = s.sup.storeOp ∧
    (missingFiled s r).sup.lastSave = s.sup.lastSave ∧
    (missingFiled s r).link = s.link ∧
    (missingFiled s r).settings = s.settings ∧
    (missingFiled s r).store = s.store ∧
    (missingFiled s r).freeIndex = s.freeIndex ∧
    (missingFiled s r).pending = s.pending := by
  simp [missingFiled, raise, raiseMarked, refreshAlertOutput]

@[simp] theorem closeMissing_frame (s : State) (r : TunnelRecord) :
    (closeMissing s r).belt = s.belt ∧
    (closeMissing s r).inputs = s.inputs ∧
    (closeMissing s r).readers = s.readers ∧
    (closeMissing s r).stage = s.stage ∧
    (closeMissing s r).tunnel = s.tunnel ∧
    (closeMissing s r).rinse = s.rinse ∧
    (closeMissing s r).pacing = s.pacing ∧
    (closeMissing s r).returns = s.returns ∧
    (closeMissing s r).tray = s.tray ∧
    (closeMissing s r).sup.mode = s.sup.mode ∧
    (closeMissing s r).sup.draining = s.sup.draining ∧
    (closeMissing s r).sup.runOn = s.sup.runOn ∧
    (closeMissing s r).sup.lineHeld = s.sup.lineHeld ∧
    (closeMissing s r).sup.mask = s.sup.mask ∧
    (closeMissing s r).sup.storeOp = s.sup.storeOp ∧
    (closeMissing s r).sup.lastSave = s.sup.lastSave ∧
    (closeMissing s r).link = s.link ∧
    (closeMissing s r).settings = s.settings ∧
    (closeMissing s r).store = s.store ∧
    (closeMissing s r).freeIndex = s.freeIndex ∧
    (closeMissing s r).pending = s.pending := by
  simp [closeMissing]

@[simp] theorem closeMissingSlot_frame (s : State) (k : ExitRecord) :
    (closeMissingSlot s k).belt = s.belt ∧
    (closeMissingSlot s k).inputs = s.inputs ∧
    (closeMissingSlot s k).readers = s.readers ∧
    (closeMissingSlot s k).stage = s.stage ∧
    (closeMissingSlot s k).tunnel = s.tunnel ∧
    (closeMissingSlot s k).rinse = s.rinse ∧
    (closeMissingSlot s k).pacing = s.pacing ∧
    (closeMissingSlot s k).returns = s.returns ∧
    (closeMissingSlot s k).tray = s.tray ∧
    (closeMissingSlot s k).sup.mode = s.sup.mode ∧
    (closeMissingSlot s k).sup.draining = s.sup.draining ∧
    (closeMissingSlot s k).sup.runOn = s.sup.runOn ∧
    (closeMissingSlot s k).sup.lineHeld = s.sup.lineHeld ∧
    (closeMissingSlot s k).sup.mask = s.sup.mask ∧
    (closeMissingSlot s k).sup.storeOp = s.sup.storeOp ∧
    (closeMissingSlot s k).sup.lastSave = s.sup.lastSave ∧
    (closeMissingSlot s k).link = s.link ∧
    (closeMissingSlot s k).settings = s.settings ∧
    (closeMissingSlot s k).store = s.store ∧
    (closeMissingSlot s k).freeIndex = s.freeIndex ∧
    (closeMissingSlot s k).pending = s.pending := by
  simp [closeMissingSlot]

@[simp] theorem giveUpTunnelRecord_frame (s : State) (n : Rack) :
    (giveUpTunnelRecord s n).belt = s.belt ∧
    (giveUpTunnelRecord s n).inputs = s.inputs ∧
    (giveUpTunnelRecord s n).readers = s.readers ∧
    (giveUpTunnelRecord s n).stage = s.stage ∧
    (giveUpTunnelRecord s n).tunnel.slot = s.tunnel.slot ∧
    (giveUpTunnelRecord s n).tunnel.lamp = s.tunnel.lamp ∧
    (giveUpTunnelRecord s n).rinse = s.rinse ∧
    (giveUpTunnelRecord s n).pacing = s.pacing ∧
    (giveUpTunnelRecord s n).returns = s.returns ∧
    (giveUpTunnelRecord s n).tray = s.tray ∧
    (giveUpTunnelRecord s n).sup.mode = s.sup.mode ∧
    (giveUpTunnelRecord s n).sup.draining = s.sup.draining ∧
    (giveUpTunnelRecord s n).sup.runOn = s.sup.runOn ∧
    (giveUpTunnelRecord s n).sup.lineHeld = s.sup.lineHeld ∧
    (giveUpTunnelRecord s n).sup.mask = s.sup.mask ∧
    (giveUpTunnelRecord s n).sup.storeOp = s.sup.storeOp ∧
    (giveUpTunnelRecord s n).sup.lastSave = s.sup.lastSave ∧
    (giveUpTunnelRecord s n).link = s.link ∧
    (giveUpTunnelRecord s n).settings = s.settings ∧
    (giveUpTunnelRecord s n).store = s.store ∧
    (giveUpTunnelRecord s n).freeIndex = s.freeIndex ∧
    (giveUpTunnelRecord s n).pending = s.pending := by
  unfold giveUpTunnelRecord; split <;> simp

@[simp] theorem closeCheck_frame (s : State) :
    (closeCheck s).belt = s.belt ∧
    (closeCheck s).inputs = s.inputs ∧
    (closeCheck s).readers = s.readers ∧
    (closeCheck s).stage = s.stage ∧
    (closeCheck s).tunnel.list = s.tunnel.list ∧
    (closeCheck s).rinse = s.rinse ∧
    (closeCheck s).pacing = s.pacing ∧
    (closeCheck s).returns = s.returns ∧
    (closeCheck s).tray = s.tray ∧
    (closeCheck s).sup.mode = s.sup.mode ∧
    (closeCheck s).sup.draining = s.sup.draining ∧
    (closeCheck s).sup.runOn = s.sup.runOn ∧
    (closeCheck s).sup.lineHeld = s.sup.lineHeld ∧
    (closeCheck s).sup.mask = s.sup.mask ∧
    (closeCheck s).sup.storeOp = s.sup.storeOp ∧
    (closeCheck s).sup.lastSave = s.sup.lastSave ∧
    (closeCheck s).link = s.link ∧
    (closeCheck s).settings = s.settings ∧
    (closeCheck s).store = s.store ∧
    (closeCheck s).freeIndex = s.freeIndex ∧
    (closeCheck s).pending = s.pending := by
  unfold closeCheck; split <;> (try (dsimp only; split)) <;> simp [lightLamp]

@[simp] theorem closeCheckUnread_frame (s : State) :
    (closeCheckUnread s).belt = s.belt ∧
    (closeCheckUnread s).inputs = s.inputs ∧
    (closeCheckUnread s).readers = s.readers ∧
    (closeCheckUnread s).stage = s.stage ∧
    (closeCheckUnread s).tunnel.list = s.tunnel.list ∧
    (closeCheckUnread s).rinse = s.rinse ∧
    (closeCheckUnread s).pacing = s.pacing ∧
    (closeCheckUnread s).returns = s.returns ∧
    (closeCheckUnread s).tray = s.tray ∧
    (closeCheckUnread s).sup.mode = s.sup.mode ∧
    (closeCheckUnread s).sup.draining = s.sup.draining ∧
    (closeCheckUnread s).sup.runOn = s.sup.runOn ∧
    (closeCheckUnread s).sup.lineHeld = s.sup.lineHeld ∧
    (closeCheckUnread s).sup.mask = s.sup.mask ∧
    (closeCheckUnread s).sup.storeOp = s.sup.storeOp ∧
    (closeCheckUnread s).sup.lastSave = s.sup.lastSave ∧
    (closeCheckUnread s).link = s.link ∧
    (closeCheckUnread s).settings = s.settings ∧
    (closeCheckUnread s).store = s.store ∧
    (closeCheckUnread s).freeIndex = s.freeIndex ∧
    (closeCheckUnread s).pending = s.pending := by
  simp [closeCheckUnread, changeSlot]

@[simp] theorem closeResetRecord_frame (s : State) (r : TunnelRecord) :
    (closeResetRecord s r).belt = s.belt ∧
    (closeResetRecord s r).inputs = s.inputs ∧
    (closeResetRecord s r).readers = s.readers ∧
    (closeResetRecord s r).stage = s.stage ∧
    (closeResetRecord s r).tunnel = s.tunnel ∧
    (closeResetRecord s r).rinse = s.rinse ∧
    (closeResetRecord s r).pacing = s.pacing ∧
    (closeResetRecord s r).returns = s.returns ∧
    (closeResetRecord s r).tray = s.tray ∧
    (closeResetRecord s r).sup.mode = s.sup.mode ∧
    (closeResetRecord s r).sup.draining = s.sup.draining ∧
    (closeResetRecord s r).sup.runOn = s.sup.runOn ∧
    (closeResetRecord s r).sup.lineHeld = s.sup.lineHeld ∧
    (closeResetRecord s r).sup.mask = s.sup.mask ∧
    (closeResetRecord s r).sup.storeOp = s.sup.storeOp ∧
    (closeResetRecord s r).sup.lastSave = s.sup.lastSave ∧
    (closeResetRecord s r).link = s.link ∧
    (closeResetRecord s r).settings = s.settings ∧
    (closeResetRecord s r).store = s.store ∧
    (closeResetRecord s r).freeIndex = s.freeIndex ∧
    (closeResetRecord s r).pending = s.pending := by
  simp [closeResetRecord]

@[simp] theorem closeResetSlot_frame (s : State) :
    (closeResetSlot s).belt = s.belt ∧
    (closeResetSlot s).inputs = s.inputs ∧
    (closeResetSlot s).readers = s.readers ∧
    (closeResetSlot s).stage = s.stage ∧
    (closeResetSlot s).tunnel.list = s.tunnel.list ∧
    (closeResetSlot s).tunnel.lamp = s.tunnel.lamp ∧
    (closeResetSlot s).rinse = s.rinse ∧
    (closeResetSlot s).pacing = s.pacing ∧
    (closeResetSlot s).returns = s.returns ∧
    (closeResetSlot s).tray = s.tray ∧
    (closeResetSlot s).sup.mode = s.sup.mode ∧
    (closeResetSlot s).sup.draining = s.sup.draining ∧
    (closeResetSlot s).sup.runOn = s.sup.runOn ∧
    (closeResetSlot s).sup.lineHeld = s.sup.lineHeld ∧
    (closeResetSlot s).sup.mask = s.sup.mask ∧
    (closeResetSlot s).sup.storeOp = s.sup.storeOp ∧
    (closeResetSlot s).sup.lastSave = s.sup.lastSave ∧
    (closeResetSlot s).link = s.link ∧
    (closeResetSlot s).settings = s.settings ∧
    (closeResetSlot s).store = s.store ∧
    (closeResetSlot s).freeIndex = s.freeIndex ∧
    (closeResetSlot s).pending = s.pending := by
  unfold closeResetSlot; split <;> simp

@[simp] theorem recomputeBelt_frame (s : State) :
    (recomputeBelt s).belt.forwardAcc = s.belt.forwardAcc ∧
    (recomputeBelt s).belt.odometer = s.belt.odometer ∧
    (recomputeBelt s).belt.reverseAcc = s.belt.reverseAcc ∧
    (recomputeBelt s).belt.reverseCount = s.belt.reverseCount ∧
    (recomputeBelt s).inputs = s.inputs ∧
    (recomputeBelt s).readers = s.readers ∧
    (recomputeBelt s).stage = s.stage ∧
    (recomputeBelt s).tunnel = s.tunnel ∧
    (recomputeBelt s).rinse = s.rinse ∧
    (recomputeBelt s).pacing.exitCause = s.pacing.exitCause ∧
    (recomputeBelt s).pacing.doorCause = s.pacing.doorCause ∧
    (recomputeBelt s).pacing.pauseCause = s.pacing.pauseCause ∧
    (recomputeBelt s).pacing.speedDemand = s.pacing.speedDemand ∧
    (recomputeBelt s).outbox = s.outbox ∧
    (recomputeBelt s).registry = s.registry ∧
    (recomputeBelt s).returns = s.returns ∧
    (recomputeBelt s).tray = s.tray ∧
    (recomputeBelt s).sup = s.sup ∧
    (recomputeBelt s).link = s.link ∧
    (recomputeBelt s).settings = s.settings ∧
    (recomputeBelt s).store = s.store ∧
    (recomputeBelt s).freeIndex = s.freeIndex ∧
    (recomputeBelt s).pending = s.pending := by
  unfold recomputeBelt; split <;> (try split) <;> simp [beltOn, beltOff]

@[simp] theorem holdsChanged_frame (b s : State) :
    (holdsChanged b s).belt.forwardAcc = s.belt.forwardAcc ∧
    (holdsChanged b s).belt.odometer = s.belt.odometer ∧
    (holdsChanged b s).belt.reverseAcc = s.belt.reverseAcc ∧
    (holdsChanged b s).belt.reverseCount = s.belt.reverseCount ∧
    (holdsChanged b s).inputs = s.inputs ∧
    (holdsChanged b s).readers = s.readers ∧
    (holdsChanged b s).stage = s.stage ∧
    (holdsChanged b s).tunnel = s.tunnel ∧
    (holdsChanged b s).rinse = s.rinse ∧
    (holdsChanged b s).pacing.exitCause = s.pacing.exitCause ∧
    (holdsChanged b s).pacing.doorCause = s.pacing.doorCause ∧
    (holdsChanged b s).pacing.pauseCause = s.pacing.pauseCause ∧
    (holdsChanged b s).pacing.speedDemand = s.pacing.speedDemand ∧
    (holdsChanged b s).outbox = s.outbox ∧
    (holdsChanged b s).registry = s.registry ∧
    (holdsChanged b s).returns = s.returns ∧
    (holdsChanged b s).tray.north = s.tray.north ∧
    (holdsChanged b s).tray.south = s.tray.south ∧
    (holdsChanged b s).tray.congestionTimer = s.tray.congestionTimer ∧
    (holdsChanged b s).tray.congested = s.tray.congested ∧
    (holdsChanged b s).sup.mode = s.sup.mode ∧
    (holdsChanged b s).sup.draining = s.sup.draining ∧
    (holdsChanged b s).sup.runOn = s.sup.runOn ∧
    (holdsChanged b s).sup.alerts = s.sup.alerts ∧
    (holdsChanged b s).sup.mask = s.sup.mask ∧
    (holdsChanged b s).sup.alertOutput = s.sup.alertOutput ∧
    (holdsChanged b s).sup.storeOp = s.sup.storeOp ∧
    (holdsChanged b s).sup.lastSave = s.sup.lastSave ∧
    (holdsChanged b s).link = s.link ∧
    (holdsChanged b s).settings = s.settings ∧
    (holdsChanged b s).store = s.store ∧
    (holdsChanged b s).freeIndex = s.freeIndex ∧
    (holdsChanged b s).pending = s.pending := by
  unfold holdsChanged; split <;> simp [reportLineHeld]

@[simp] theorem changeMode_frame (s : State) (m : LineMode) :
    (changeMode s m).belt.forwardAcc = s.belt.forwardAcc ∧
    (changeMode s m).belt.odometer = s.belt.odometer ∧
    (changeMode s m).belt.reverseAcc = s.belt.reverseAcc ∧
    (changeMode s m).belt.reverseCount = s.belt.reverseCount ∧
    (changeMode s m).inputs = s.inputs ∧
    (changeMode s m).readers = s.readers ∧
    (changeMode s m).stage = s.stage ∧
    (changeMode s m).tunnel = s.tunnel ∧
    (changeMode s m).rinse = s.rinse ∧
    (changeMode s m).pacing.exitCause = s.pacing.exitCause ∧
    (changeMode s m).pacing.doorCause = s.pacing.doorCause ∧
    (changeMode s m).pacing.pauseCause = s.pacing.pauseCause ∧
    (changeMode s m).pacing.speedDemand = s.pacing.speedDemand ∧
    (changeMode s m).outbox = s.outbox ∧
    (changeMode s m).registry = s.registry ∧
    (changeMode s m).returns.stations = s.returns.stations ∧
    (changeMode s m).returns.enRoute = s.returns.enRoute ∧
    (changeMode s m).returns.pointers = s.returns.pointers ∧
    (changeMode s m).tray.congestionTimer = s.tray.congestionTimer ∧
    (changeMode s m).tray.congested = s.tray.congested ∧
    (changeMode s m).tray.lineHeld = s.tray.lineHeld ∧
    (changeMode s m).sup.draining = s.sup.draining ∧
    (changeMode s m).sup.lineHeld = s.sup.lineHeld ∧
    (changeMode s m).sup.alerts = s.sup.alerts ∧
    (changeMode s m).sup.mask = s.sup.mask ∧
    (changeMode s m).sup.alertOutput = s.sup.alertOutput ∧
    (changeMode s m).sup.storeOp = s.sup.storeOp ∧
    (changeMode s m).sup.lastSave = s.sup.lastSave ∧
    (changeMode s m).link = s.link ∧
    (changeMode s m).settings = s.settings ∧
    (changeMode s m).store = s.store ∧
    (changeMode s m).freeIndex = s.freeIndex ∧
    (changeMode s m).pending = s.pending := by
  unfold changeMode; dsimp only; split <;> simp [traysAtModeChange, recomputeReturnBelt, divertersOff]

@[simp] theorem requestHalt_frame (s : State) (c : HaltCause) :
    (requestHalt s c).belt.forwardAcc = s.belt.forwardAcc ∧
    (requestHalt s c).belt.odometer = s.belt.odometer ∧
    (requestHalt s c).belt.reverseAcc = s.belt.reverseAcc ∧
    (requestHalt s c).belt.reverseCount = s.belt.reverseCount ∧
    (requestHalt s c).inputs = s.inputs ∧
    (requestHalt s c).readers = s.readers ∧
    (requestHalt s c).stage = s.stage ∧
    (requestHalt s c).tunnel.slot = s.tunnel.slot ∧
    (requestHalt s c).tunnel.lamp = s.tunnel.lamp ∧
    (requestHalt s c).rinse = s.rinse ∧
    (requestHalt s c).pacing.exitCause = s.pacing.exitCause ∧
    (requestHalt s c).pacing.doorCause = s.pacing.doorCause ∧
    (requestHalt s c).pacing.pauseCause = s.pacing.pauseCause ∧
    (requestHalt s c).pacing.speedDemand = s.pacing.speedDemand ∧
    (requestHalt s c).outbox = s.outbox ∧
    (requestHalt s c).registry = s.registry ∧
    (requestHalt s c).returns.stations = s.returns.stations ∧
    (requestHalt s c).returns.enRoute = s.returns.enRoute ∧
    (requestHalt s c).returns.pointers = s.returns.pointers ∧
    (requestHalt s c).tray.congestionTimer = s.tray.congestionTimer ∧
    (requestHalt s c).tray.congested = s.tray.congested ∧
    (requestHalt s c).tray.lineHeld = s.tray.lineHeld ∧
    (requestHalt s c).sup.draining = s.sup.draining ∧
    (requestHalt s c).sup.lineHeld = s.sup.lineHeld ∧
    (requestHalt s c).sup.mask = s.sup.mask ∧
    (requestHalt s c).sup.storeOp = s.sup.storeOp ∧
    (requestHalt s c).sup.lastSave = s.sup.lastSave ∧
    (requestHalt s c).link = s.link ∧
    (requestHalt s c).settings = s.settings ∧
    (requestHalt s c).store = s.store ∧
    (requestHalt s c).freeIndex = s.freeIndex ∧
    (requestHalt s c).pending = s.pending := by
  unfold requestHalt; dsimp only; split <;> split <;> simp [flagRecords, raise, raiseMarked, refreshAlertOutput]

@[simp] theorem wake_frame (s : State) :
    (wake s).belt.forwardAcc = s.belt.forwardAcc ∧
    (wake s).belt.odometer = s.belt.odometer ∧
    (wake s).belt.reverseAcc = s.belt.reverseAcc ∧
    (wake s).belt.reverseCount = s.belt.reverseCount ∧
    (wake s).inputs = s.inputs ∧
    (wake s).readers = s.readers ∧
    (wake s).stage = s.stage ∧
    (wake s).tunnel = s.tunnel ∧
    (wake s).rinse = s.rinse ∧
    (wake s).pacing.exitCause = s.pacing.exitCause ∧
    (wake s).pacing.doorCause = s.pacing.doorCause ∧
    (wake s).pacing.pauseCause = s.pacing.pauseCause ∧
    (wake s).pacing.speedDemand = s.pacing.speedDemand ∧
    (wake s).outbox = s.outbox ∧
    (wake s).registry = s.registry ∧
    (wake s).returns.stations = s.returns.stations ∧
    (wake s).returns.enRoute = s.returns.enRoute ∧
    (wake s).returns.pointers = s.returns.pointers ∧
    (wake s).tray.congestionTimer = s.tray.congestionTimer ∧
    (wake s).tray.congested = s.tray.congested ∧
    (wake s).tray.lineHeld = s.tray.lineHeld ∧
    (wake s).sup.draining = s.sup.draining ∧
    (wake s).sup.lineHeld = s.sup.lineHeld ∧
    (wake s).sup.alerts = s.sup.alerts ∧
    (wake s).sup.mask = s.sup.mask ∧
    (wake s).sup.alertOutput = s.sup.alertOutput ∧
    (wake s).sup.storeOp = s.sup.storeOp ∧
    (wake s).sup.lastSave = s.sup.lastSave ∧
    (wake s).link = s.link ∧
    (wake s).settings = s.settings ∧
    (wake s).store = s.store ∧
    (wake s).freeIndex = s.freeIndex ∧
    (wake s).pending = s.pending := by
  unfold wake; split <;> simp

@[simp] theorem admitRack_frame (s : State) (o : ReadOutcome) :
    (admitRack s o).belt.forwardAcc = s.belt.forwardAcc ∧
    (admitRack s o).belt.odometer = s.belt.odometer ∧
    (admitRack s o).belt.reverseAcc = s.belt.reverseAcc ∧
    (admitRack s o).belt.reverseCount = s.belt.reverseCount ∧
    (admitRack s o).inputs = s.inputs ∧
    (admitRack s o).readers = s.readers ∧
    (admitRack s o).tunnel = s.tunnel ∧
    (admitRack s o).rinse = s.rinse ∧
    (admitRack s o).pacing.exitCause = s.pacing.exitCause ∧
    (admitRack s o).pacing.doorCause = s.pacing.doorCause ∧
    (admitRack s o).pacing.pauseCause = s.pacing.pauseCause ∧
    (admitRack s o).pacing.speedDemand = s.pacing.speedDemand ∧
    (admitRack s o).outbox = s.outbox ∧
    (admitRack s o).returns.stations = s.returns.stations ∧
    (admitRack s o).returns.pointers = s.returns.pointers ∧
    (admitRack s o).tray.congestionTimer = s.tray.congestionTimer ∧
    (admitRack s o).tray.congested = s.tray.congested ∧
    (admitRack s o).tray.lineHeld = s.tray.lineHeld ∧
    (admitRack s o).sup.draining = s.sup.draining ∧
    (admitRack s o).sup.lineHeld = s.sup.lineHeld ∧
    (admitRack s o).sup.alerts = s.sup.alerts ∧
    (admitRack s o).sup.mask = s.sup.mask ∧
    (admitRack s o).sup.alertOutput = s.sup.alertOutput ∧
    (admitRack s o).sup.storeOp = s.sup.storeOp ∧
    (admitRack s o).sup.lastSave = s.sup.lastSave ∧
    (admitRack s o).link = s.link ∧
    (admitRack s o).settings = s.settings ∧
    (admitRack s o).store = s.store ∧
    (admitRack s o).freeIndex = s.freeIndex ∧
    (admitRack s o).pending = s.pending := by
  simp [admitRack]

@[simp] theorem decideAdmission_frame (s : State) (o : ReadOutcome) :
    (decideAdmission s o).belt.forwardAcc = s.belt.forwardAcc ∧
    (decideAdmission s o).belt.odometer = s.belt.odometer ∧
    (decideAdmission s o).belt.reverseAcc = s.belt.reverseAcc ∧
    (decideAdmission s o).belt.reverseCount = s.belt.reverseCount ∧
    (decideAdmission s o).inputs = s.inputs ∧
    (decideAdmission s o).readers = s.readers ∧
    (decideAdmission s o).tunnel = s.tunnel ∧
    (decideAdmission s o).rinse = s.rinse ∧
    (decideAdmission s o).pacing.exitCause = s.pacing.exitCause ∧
    (decideAdmission s o).pacing.doorCause = s.pacing.doorCause ∧
    (decideAdmission s o).pacing.pauseCause = s.pacing.pauseCause ∧
    (decideAdmission s o).pacing.speedDemand = s.pacing.speedDemand ∧
    (decideAdmission s o).outbox = s.outbox ∧
    (decideAdmission s o).returns.stations = s.returns.stations ∧
    (decideAdmission s o).returns.pointers = s.returns.pointers ∧
    (decideAdmission s o).tray.congestionTimer = s.tray.congestionTimer ∧
    (decideAdmission s o).tray.congested = s.tray.congested ∧
    (decideAdmission s o).tray.lineHeld = s.tray.lineHeld ∧
    (decideAdmission s o).sup.draining = s.sup.draining ∧
    (decideAdmission s o).sup.lineHeld = s.sup.lineHeld ∧
    (decideAdmission s o).sup.mask = s.sup.mask ∧
    (decideAdmission s o).sup.storeOp = s.sup.storeOp ∧
    (decideAdmission s o).sup.lastSave = s.sup.lastSave ∧
    (decideAdmission s o).link = s.link ∧
    (decideAdmission s o).settings = s.settings ∧
    (decideAdmission s o).store = s.store ∧
    (decideAdmission s o).freeIndex = s.freeIndex ∧
    (decideAdmission s o).pending = s.pending := by
  unfold decideAdmission; split <;> (try (dsimp only; split)) <;> simp [raise, raiseMarked, refreshAlertOutput]

@[simp] theorem reevaluate_frame (s : State) :
    (reevaluate s).belt.forwardAcc = s.belt.forwardAcc ∧
    (reevaluate s).belt.odometer = s.belt.odometer ∧
    (reevaluate s).belt.reverseAcc = s.belt.reverseAcc ∧
    (reevaluate s).belt.reverseCount = s.belt.reverseCount ∧
    (reevaluate s).inputs = s.inputs ∧
    (reevaluate s).readers = s.readers ∧
    (reevaluate s).tunnel = s.tunnel ∧
    (reevaluate s).rinse = s.rinse ∧
    (reevaluate s).pacing.exitCause = s.pacing.exitCause ∧
    (reevaluate s).pacing.doorCause = s.pacing.doorCause ∧
    (reevaluate s).pacing.pauseCause = s.pacing.pauseCause ∧
    (reevaluate s).pacing.speedDemand = s.pacing.speedDemand ∧
    (reevaluate s).outbox = s.outbox ∧
    (reevaluate s).returns.stations = s.returns.stations ∧
    (reevaluate s).returns.pointers = s.returns.pointers ∧
    (reevaluate s).tray.congestionTimer = s.tray.congestionTimer ∧
    (reevaluate s).tray.congested = s.tray.congested ∧
    (reevaluate s).tray.lineHeld = s.tray.lineHeld ∧
    (reevaluate s).sup.draining = s.sup.draining ∧
    (reevaluate s).sup.lineHeld = s.sup.lineHeld ∧
    (reevaluate s).sup.mask = s.sup.mask ∧
    (reevaluate s).sup.storeOp = s.sup.storeOp ∧
    (reevaluate s).sup.lastSave = s.sup.lastSave ∧
    (reevaluate s).link = s.link ∧
    (reevaluate s).settings = s.settings ∧
    (reevaluate s).store = s.store ∧
    (reevaluate s).freeIndex = s.freeIndex ∧
    (reevaluate s).pending = s.pending := by
  unfold reevaluate; split <;> (try split) <;> simp

@[simp] theorem resumeApproach_frame (s : State) (h : Option ReadOutcome) :
    (resumeApproach s h).belt.forwardAcc = s.belt.forwardAcc ∧
    (resumeApproach s h).belt.odometer = s.belt.odometer ∧
    (resumeApproach s h).belt.reverseAcc = s.belt.reverseAcc ∧
    (resumeApproach s h).belt.reverseCount = s.belt.reverseCount ∧
    (resumeApproach s h).inputs = s.inputs ∧
    (resumeApproach s h).tunnel = s.tunnel ∧
    (resumeApproach s h).rinse = s.rinse ∧
    (resumeApproach s h).pacing.exitCause = s.pacing.exitCause ∧
    (resumeApproach s h).pacing.doorCause = s.pacing.doorCause ∧
    (resumeApproach s h).pacing.pauseCause = s.pacing.pauseCause ∧
    (resumeApproach s h).pacing.speedDemand = s.pacing.speedDemand ∧
    (resumeApproach s h).outbox = s.outbox ∧
    (resumeApproach s h).returns.stations = s.returns.stations ∧
    (resumeApproach s h).returns.pointers = s.returns.pointers ∧
    (resumeApproach s h).tray.congestionTimer = s.tray.congestionTimer ∧
    (resumeApproach s h).tray.congested = s.tray.congested ∧
    (resumeApproach s h).tray.lineHeld = s.tray.lineHeld ∧
    (resumeApproach s h).sup.draining = s.sup.draining ∧
    (resumeApproach s h).sup.lineHeld = s.sup.lineHeld ∧
    (resumeApproach s h).sup.mask = s.sup.mask ∧
    (resumeApproach s h).sup.storeOp = s.sup.storeOp ∧
    (resumeApproach s h).sup.lastSave = s.sup.lastSave ∧
    (resumeApproach s h).link = s.link ∧
    (resumeApproach s h).settings = s.settings ∧
    (resumeApproach s h).store = s.store ∧
    (resumeApproach s h).freeIndex = s.freeIndex ∧
    (resumeApproach s h).pending = s.pending := by
  unfold resumeApproach; split <;> (try split) <;> simp

@[simp] theorem endPending_frame (s : State) :
    (endPending s).belt.forwardAcc = s.belt.forwardAcc ∧
    (endPending s).belt.odometer = s.belt.odometer ∧
    (endPending s).belt.reverseAcc = s.belt.reverseAcc ∧
    (endPending s).belt.reverseCount = s.belt.reverseCount ∧
    (endPending s).inputs = s.inputs ∧
    (endPending s).tunnel = s.tunnel ∧
    (endPending s).rinse = s.rinse ∧
    (endPending s).pacing.exitCause = s.pacing.exitCause ∧
    (endPending s).pacing.doorCause = s.pacing.doorCause ∧
    (endPending s).pacing.pauseCause = s.pacing.pauseCause ∧
    (endPending s).pacing.speedDemand = s.pacing.speedDemand ∧
    (endPending s).outbox = s.outbox ∧
    (endPending s).returns.stations = s.returns.stations ∧
    (endPending s).returns.pointers = s.returns.pointers ∧
    (endPending s).tray.congestionTimer = s.tray.congestionTimer ∧
    (endPending s).tray.congested = s.tray.congested ∧
    (endPending s).tray.lineHeld = s.tray.lineHeld ∧
    (endPending s).sup.draining = s.sup.draining ∧
    (endPending s).sup.lineHeld = s.sup.lineHeld ∧
    (endPending s).sup.mask = s.sup.mask ∧
    (endPending s).sup.storeOp = s.sup.storeOp ∧
    (endPending s).sup.lastSave = s.sup.lastSave ∧
    (endPending s).link = s.link ∧
    (endPending s).settings = s.settings ∧
    (endPending s).store = s.store ∧
    (endPending s).freeIndex = s.freeIndex ∧
    (endPending s).pending = s.pending := by
  unfold endPending; split <;> simp [raise, raiseMarked, refreshAlertOutput]

@[simp] theorem lapseStep_frame (s : State) :
    (lapseStep s).belt.forwardAcc = s.belt.forwardAcc ∧
    (lapseStep s).belt.odometer = s.belt.odometer ∧
    (lapseStep s).belt.reverseAcc = s.belt.reverseAcc ∧
    (lapseStep s).belt.reverseCount = s.belt.reverseCount ∧
    (lapseStep s).inputs = s.inputs ∧
    (lapseStep s).tunnel = s.tunnel ∧
    (lapseStep s).rinse = s.rinse ∧
    (lapseStep s).pacing.exitCause = s.pacing.exitCause ∧
    (lapseStep s).pacing.doorCause = s.pacing.doorCause ∧
    (lapseStep s).pacing.pauseCause = s.pacing.pauseCause ∧
    (lapseStep s).pacing.speedDemand = s.pacing.speedDemand ∧
    (lapseStep s).outbox = s.outbox ∧
    (lapseStep s).returns.stations = s.returns.stations ∧
    (lapseStep s).returns.pointers = s.returns.pointers ∧
    (lapseStep s).tray.congestionTimer = s.tray.congestionTimer ∧
    (lapseStep s).tray.congested = s.tray.congested ∧
    (lapseStep s).tray.lineHeld = s.tray.lineHeld ∧
    (lapseStep s).sup.draining = s.sup.draining ∧
    (lapseStep s).sup.lineHeld = s.sup.lineHeld ∧
    (lapseStep s).sup.mask = s.sup.mask ∧
    (lapseStep s).sup.storeOp = s.sup.storeOp ∧
    (lapseStep s).sup.lastSave = s.sup.lastSave ∧
    (lapseStep s).link = s.link ∧
    (lapseStep s).settings = s.settings ∧
    (lapseStep s).store = s.store ∧
    (lapseStep s).freeIndex = s.freeIndex ∧
    (lapseStep s).pending = s.pending := by
  unfold lapseStep; split <;> (try (dsimp only; split)) <;> simp

@[simp] theorem drainTest_frame (s : State) :
    (drainTest s).belt.forwardAcc = s.belt.forwardAcc ∧
    (drainTest s).belt.odometer = s.belt.odometer ∧
    (drainTest s).belt.reverseAcc = s.belt.reverseAcc ∧
    (drainTest s).belt.reverseCount = s.belt.reverseCount ∧
    (drainTest s).inputs = s.inputs ∧
    (drainTest s).readers = s.readers ∧
    (drainTest s).tunnel = s.tunnel ∧
    (drainTest s).rinse = s.rinse ∧
    (drainTest s).pacing.exitCause = s.pacing.exitCause ∧
    (drainTest s).pacing.doorCause = s.pacing.doorCause ∧
    (drainTest s).pacing.pauseCause = s.pacing.pauseCause ∧
    (drainTest s).pacing.speedDemand = s.pacing.speedDemand ∧
    (drainTest s).outbox = s.outbox ∧
    (drainTest s).returns.stations = s.returns.stations ∧
    (drainTest s).returns.pointers = s.returns.pointers ∧
    (drainTest s).tray.congestionTimer = s.tray.congestionTimer ∧
    (drainTest s).tray.congested = s.tray.congested ∧
    (drainTest s).tray.lineHeld = s.tray.lineHeld ∧
    (drainTest s).sup.lineHeld = s.sup.lineHeld ∧
    (drainTest s).sup.mask = s.sup.mask ∧
    (drainTest s).sup.storeOp = s.sup.storeOp ∧
    (drainTest s).sup.lastSave = s.sup.lastSave ∧
    (drainTest s).link = s.link ∧
    (drainTest s).settings = s.settings ∧
    (drainTest s).store = s.store ∧
    (drainTest s).freeIndex = s.freeIndex ∧
    (drainTest s).pending = s.pending := by
  unfold drainTest; split <;> simp

@[simp] theorem runOnTest_frame (s : State) :
    (runOnTest s).belt.forwardAcc = s.belt.forwardAcc ∧
    (runOnTest s).belt.odometer = s.belt.odometer ∧
    (runOnTest s).belt.reverseAcc = s.belt.reverseAcc ∧
    (runOnTest s).belt.reverseCount = s.belt.reverseCount ∧
    (runOnTest s).inputs = s.inputs ∧
    (runOnTest s).readers = s.readers ∧
    (runOnTest s).tunnel = s.tunnel ∧
    (runOnTest s).rinse = s.rinse ∧
    (runOnTest s).pacing.exitCause = s.pacing.exitCause ∧
    (runOnTest s).pacing.doorCause = s.pacing.doorCause ∧
    (runOnTest s).pacing.pauseCause = s.pacing.pauseCause ∧
    (runOnTest s).pacing.speedDemand = s.pacing.speedDemand ∧
    (runOnTest s).outbox = s.outbox ∧
    (runOnTest s).returns.stations = s.returns.stations ∧
    (runOnTest s).returns.pointers = s.returns.pointers ∧
    (runOnTest s).tray.congestionTimer = s.tray.congestionTimer ∧
    (runOnTest s).tray.congested = s.tray.congested ∧
    (runOnTest s).tray.lineHeld = s.tray.lineHeld ∧
    (runOnTest s).sup.draining = s.sup.draining ∧
    (runOnTest s).sup.lineHeld = s.sup.lineHeld ∧
    (runOnTest s).sup.mask = s.sup.mask ∧
    (runOnTest s).sup.storeOp = s.sup.storeOp ∧
    (runOnTest s).sup.lastSave = s.sup.lastSave ∧
    (runOnTest s).link = s.link ∧
    (runOnTest s).settings = s.settings ∧
    (runOnTest s).store = s.store ∧
    (runOnTest s).freeIndex = s.freeIndex ∧
    (runOnTest s).pending = s.pending := by
  unfold runOnTest; split <;> simp

@[simp] theorem runOnWhileOccupied_frame (s : State) :
    (runOnWhileOccupied s).belt = s.belt ∧
    (runOnWhileOccupied s).inputs = s.inputs ∧
    (runOnWhileOccupied s).readers = s.readers ∧
    (runOnWhileOccupied s).stage = s.stage ∧
    (runOnWhileOccupied s).tunnel = s.tunnel ∧
    (runOnWhileOccupied s).rinse = s.rinse ∧
    (runOnWhileOccupied s).pacing = s.pacing ∧
    (runOnWhileOccupied s).outbox = s.outbox ∧
    (runOnWhileOccupied s).registry = s.registry ∧
    (runOnWhileOccupied s).returns = s.returns ∧
    (runOnWhileOccupied s).tray = s.tray ∧
    (runOnWhileOccupied s).sup.mode = s.sup.mode ∧
    (runOnWhileOccupied s).sup.draining = s.sup.draining ∧
    (runOnWhileOccupied s).sup.lineHeld = s.sup.lineHeld ∧
    (runOnWhileOccupied s).sup.alerts = s.sup.alerts ∧
    (runOnWhileOccupied s).sup.mask = s.sup.mask ∧
    (runOnWhileOccupied s).sup.alertOutput = s.sup.alertOutput ∧
    (runOnWhileOccupied s).sup.storeOp = s.sup.storeOp ∧
    (runOnWhileOccupied s).sup.lastSave = s.sup.lastSave ∧
    (runOnWhileOccupied s).link = s.link ∧
    (runOnWhileOccupied s).settings = s.settings ∧
    (runOnWhileOccupied s).store = s.store ∧
    (runOnWhileOccupied s).freeIndex = s.freeIndex ∧
    (runOnWhileOccupied s).pending = s.pending := by
  unfold runOnWhileOccupied; split <;> simp

@[simp] theorem settle_frame (s : State) :
    (settle s).belt.forwardAcc = s.belt.forwardAcc ∧
    (settle s).belt.odometer = s.belt.odometer ∧
    (settle s).belt.reverseAcc = s.belt.reverseAcc ∧
    (settle s).belt.reverseCount = s.belt.reverseCount ∧
    (settle s).inputs = s.inputs ∧
    (settle s).readers = s.readers ∧
    (settle s).tunnel = s.tunnel ∧
    (settle s).rinse = s.rinse ∧
    (settle s).pacing.exitCause = s.pacing.exitCause ∧
    (settle s).pacing.doorCause = s.pacing.doorCause ∧
    (settle s).pacing.pauseCause = s.pacing.pauseCause ∧
    (settle s).pacing.speedDemand = s.pacing.speedDemand ∧
    (settle s).outbox = s.outbox ∧
    (settle s).returns.stations = s.returns.stations ∧
    (settle s).returns.pointers = s.returns.pointers ∧
    (settle s).tray.congestionTimer = s.tray.congestionTimer ∧
    (settle s).tray.congested = s.tray.congested ∧
    (settle s).tray.lineHeld = s.tray.lineHeld ∧
    (settle s).sup.lineHeld = s.sup.lineHeld ∧
    (settle s).sup.mask = s.sup.mask ∧
    (settle s).sup.storeOp = s.sup.storeOp ∧
    (settle s).sup.lastSave = s.sup.lastSave ∧
    (settle s).link = s.link ∧
    (settle s).settings = s.settings ∧
    (settle s).store = s.store ∧
    (settle s).freeIndex = s.freeIndex ∧
    (settle s).pending = s.pending := by
  simp [settle]

@[simp] theorem claimAtApproach_frame (s : State) (n : Rack) :
    (claimAtApproach s n).belt = s.belt ∧
    (claimAtApproach s n).inputs = s.inputs ∧
    (claimAtApproach s n).readers = s.readers ∧
    (claimAtApproach s n).stage = s.stage ∧
    (claimAtApproach s n).rinse = s.rinse ∧
    (claimAtApproach s n).pacing = s.pacing ∧
    (claimAtApproach s n).returns.stations = s.returns.stations ∧
    (claimAtApproach s n).returns.pointers = s.returns.pointers ∧
    (claimAtApproach s n).returns.diverters = s.returns.diverters ∧
    (claimAtApproach s n).returns.returnBelt = s.returns.returnBelt ∧
    (claimAtApproach s n).tray = s.tray ∧
    (claimAtApproach s n).sup.mode = s.sup.mode ∧
    (claimAtApproach s n).sup.draining = s.sup.draining ∧
    (claimAtApproach s n).sup.runOn = s.sup.runOn ∧
    (claimAtApproach s n).sup.lineHeld = s.sup.lineHeld ∧
    (claimAtApproach s n).sup.mask = s.sup.mask ∧
    (claimAtApproach s n).sup.storeOp = s.sup.storeOp ∧
    (claimAtApproach s n).sup.lastSave = s.sup.lastSave ∧
    (claimAtApproach s n).link = s.link ∧
    (claimAtApproach s n).settings = s.settings ∧
    (claimAtApproach s n).store = s.store ∧
    (claimAtApproach s n).freeIndex = s.freeIndex ∧
    (claimAtApproach s n).pending = s.pending := by
  unfold claimAtApproach; split <;> simp [removeEnRoute]

@[simp] theorem approachRead_frame (s : State) (o : ReadOutcome) :
    (approachRead s o).belt.forwardAcc = s.belt.forwardAcc ∧
    (approachRead s o).belt.odometer = s.belt.odometer ∧
    (approachRead s o).belt.reverseAcc = s.belt.reverseAcc ∧
    (approachRead s o).belt.reverseCount = s.belt.reverseCount ∧
    (approachRead s o).inputs = s.inputs ∧
    (approachRead s o).readers = s.readers ∧
    (approachRead s o).rinse = s.rinse ∧
    (approachRead s o).pacing.exitCause = s.pacing.exitCause ∧
    (approachRead s o).pacing.doorCause = s.pacing.doorCause ∧
    (approachRead s o).pacing.pauseCause = s.pacing.pauseCause ∧
    (approachRead s o).pacing.speedDemand = s.pacing.speedDemand ∧
    (approachRead s o).returns.stations = s.returns.stations ∧
    (approachRead s o).returns.pointers = s.returns.pointers ∧
    (approachRead s o).tray.congestionTimer = s.tray.congestionTimer ∧
    (approachRead s o).tray.congested = s.tray.congested ∧
    (approachRead s o).tray.lineHeld = s.tray.lineHeld ∧
    (approachRead s o).sup.draining = s.sup.draining ∧
    (approachRead s o).sup.lineHeld = s.sup.lineHeld ∧
    (approachRead s o).sup.mask = s.sup.mask ∧
    (approachRead s o).sup.storeOp = s.sup.storeOp ∧
    (approachRead s o).sup.lastSave = s.sup.lastSave ∧
    (approachRead s o).link = s.link ∧
    (approachRead s o).settings = s.settings ∧
    (approachRead s o).store = s.store ∧
    (approachRead s o).freeIndex = s.freeIndex ∧
    (approachRead s o).pending = s.pending := by
  unfold approachRead; split <;> simp

@[simp] theorem heldOutcome_frame (s : State) (p : Pending) (l : Nat) (h : Option ReadOutcome) (o : ReadOutcome) :
    (heldOutcome s p l h o).belt.forwardAcc = s.belt.forwardAcc ∧
    (heldOutcome s p l h o).belt.odometer = s.belt.odometer ∧
    (heldOutcome s p l h o).belt.reverseAcc = s.belt.reverseAcc ∧
    (heldOutcome s p l h o).belt.reverseCount = s.belt.reverseCount ∧
    (heldOutcome s p l h o).inputs = s.inputs ∧
    (heldOutcome s p l h o).readers = s.readers ∧
    (heldOutcome s p l h o).rinse = s.rinse ∧
    (heldOutcome s p l h o).pacing.exitCause = s.pacing.exitCause ∧
    (heldOutcome s p l h o).pacing.doorCause = s.pacing.doorCause ∧
    (heldOutcome s p l h o).pacing.pauseCause = s.pacing.pauseCause ∧
    (heldOutcome s p l h o).pacing.speedDemand = s.pacing.speedDemand ∧
    (heldOutcome s p l h o).returns.stations = s.returns.stations ∧
    (heldOutcome s p l h o).returns.pointers = s.returns.pointers ∧
    (heldOutcome s p l h o).tray.congestionTimer = s.tray.congestionTimer ∧
    (heldOutcome s p l h o).tray.congested = s.tray.congested ∧
    (heldOutcome s p l h o).tray.lineHeld = s.tray.lineHeld ∧
    (heldOutcome s p l h o).sup.draining = s.sup.draining ∧
    (heldOutcome s p l h o).sup.lineHeld = s.sup.lineHeld ∧
    (heldOutcome s p l h o).sup.mask = s.sup.mask ∧
    (heldOutcome s p l h o).sup.storeOp = s.sup.storeOp ∧
    (heldOutcome s p l h o).sup.lastSave = s.sup.lastSave ∧
    (heldOutcome s p l h o).link = s.link ∧
    (heldOutcome s p l h o).settings = s.settings ∧
    (heldOutcome s p l h o).store = s.store ∧
    (heldOutcome s p l h o).freeIndex = s.freeIndex ∧
    (heldOutcome s p l h o).pending = s.pending := by
  unfold heldOutcome; split <;> (try (dsimp only; split)) <;> simp [raise, raiseMarked, refreshAlertOutput]

@[simp] theorem entryOutcome_frame (s : State) (o : ReadOutcome) :
    (entryOutcome s o).belt.forwardAcc = s.belt.forwardAcc ∧
    (entryOutcome s o).belt.odometer = s.belt.odometer ∧
    (entryOutcome s o).belt.reverseAcc = s.belt.reverseAcc ∧
    (entryOutcome s o).belt.reverseCount = s.belt.reverseCount ∧
    (entryOutcome s o).inputs = s.inputs ∧
    (entryOutcome s o).readers = s.readers ∧
    (entryOutcome s o).rinse = s.rinse ∧
    (entryOutcome s o).pacing.exitCause = s.pacing.exitCause ∧
    (entryOutcome s o).pacing.doorCause = s.pacing.doorCause ∧
    (entryOutcome s o).pacing.pauseCause = s.pacing.pauseCause ∧
    (entryOutcome s o).pacing.speedDemand = s.pacing.speedDemand ∧
    (entryOutcome s o).returns.stations = s.returns.stations ∧
    (entryOutcome s o).returns.pointers = s.returns.pointers ∧
    (entryOutcome s o).tray.congestionTimer = s.tray.congestionTimer ∧
    (entryOutcome s o).tray.congested = s.tray.congested ∧
    (entryOutcome s o).tray.lineHeld = s.tray.lineHeld ∧
    (entryOutcome s o).sup.draining = s.sup.draining ∧
    (entryOutcome s o).sup.lineHeld = s.sup.lineHeld ∧
    (entryOutcome s o).sup.mask = s.sup.mask ∧
    (entryOutcome s o).sup.storeOp = s.sup.storeOp ∧
    (entryOutcome s o).sup.lastSave = s.sup.lastSave ∧
    (entryOutcome s o).link = s.link ∧
    (entryOutcome s o).settings = s.settings ∧
    (entryOutcome s o).store = s.store ∧
    (entryOutcome s o).freeIndex = s.freeIndex ∧
    (entryOutcome s o).pending = s.pending := by
  unfold entryOutcome; split <;> simp

@[simp] theorem approachBlocked_frame (s : State) :
    (approachBlocked s).belt = s.belt ∧
    (approachBlocked s).inputs = s.inputs ∧
    (approachBlocked s).readers = s.readers ∧
    (approachBlocked s).tunnel = s.tunnel ∧
    (approachBlocked s).rinse = s.rinse ∧
    (approachBlocked s).pacing = s.pacing ∧
    (approachBlocked s).outbox = s.outbox ∧
    (approachBlocked s).registry = s.registry ∧
    (approachBlocked s).returns = s.returns ∧
    (approachBlocked s).tray = s.tray ∧
    (approachBlocked s).sup = s.sup ∧
    (approachBlocked s).link = s.link ∧
    (approachBlocked s).settings = s.settings ∧
    (approachBlocked s).store = s.store ∧
    (approachBlocked s).freeIndex = s.freeIndex ∧
    (approachBlocked s).pending = s.pending := by
  unfold approachBlocked; split <;> simp

@[simp] theorem approachClear_frame (s : State) :
    (approachClear s).belt = s.belt ∧
    (approachClear s).inputs = s.inputs ∧
    (approachClear s).readers = s.readers ∧
    (approachClear s).tunnel = s.tunnel ∧
    (approachClear s).rinse = s.rinse ∧
    (approachClear s).pacing = s.pacing ∧
    (approachClear s).outbox = s.outbox ∧
    (approachClear s).returns.stations = s.returns.stations ∧
    (approachClear s).returns.pointers = s.returns.pointers ∧
    (approachClear s).returns.diverters = s.returns.diverters ∧
    (approachClear s).returns.returnBelt = s.returns.returnBelt ∧
    (approachClear s).tray = s.tray ∧
    (approachClear s).sup = s.sup ∧
    (approachClear s).link = s.link ∧
    (approachClear s).settings = s.settings ∧
    (approachClear s).store = s.store ∧
    (approachClear s).freeIndex = s.freeIndex ∧
    (approachClear s).pending = s.pending := by
  unfold approachClear; split <;> simp

@[simp] theorem forcedEntry_frame (s : State) :
    (forcedEntry s).belt = s.belt ∧
    (forcedEntry s).inputs = s.inputs ∧
    (forcedEntry s).readers = s.readers ∧
    (forcedEntry s).stage = s.stage ∧
    (forcedEntry s).tunnel.slot = s.tunnel.slot ∧
    (forcedEntry s).tunnel.lamp = s.tunnel.lamp ∧
    (forcedEntry s).rinse = s.rinse ∧
    (forcedEntry s).pacing.exitCause = s.pacing.exitCause ∧
    (forcedEntry s).pacing.doorCause = s.pacing.doorCause ∧
    (forcedEntry s).pacing.pauseCause = s.pacing.pauseCause ∧
    (forcedEntry s).pacing.speedDemand = s.pacing.speedDemand ∧
    (forcedEntry s).pacing.beltRun = s.pacing.beltRun ∧
    (forcedEntry s).pacing.setPoint = s.pacing.setPoint ∧
    (forcedEntry s).pacing.valveOpen = s.pacing.valveOpen ∧
    (forcedEntry s).pacing.longestOverrun = s.pacing.longestOverrun ∧
    (forcedEntry s).outbox = s.outbox ∧
    (forcedEntry s).registry = s.registry ∧
    (forcedEntry s).returns = s.returns ∧
    (forcedEntry s).tray = s.tray ∧
    (forcedEntry s).sup.mode = s.sup.mode ∧
    (forcedEntry s).sup.draining = s.sup.draining ∧
    (forcedEntry s).sup.runOn = s.sup.runOn ∧
    (forcedEntry s).sup.lineHeld = s.sup.lineHeld ∧
    (forcedEntry s).sup.mask = s.sup.mask ∧
    (forcedEntry s).sup.storeOp = s.sup.storeOp ∧
    (forcedEntry s).sup.lastSave = s.sup.lastSave ∧
    (forcedEntry s).link = s.link ∧
    (forcedEntry s).settings = s.settings ∧
    (forcedEntry s).store = s.store ∧
    (forcedEntry s).freeIndex = s.freeIndex ∧
    (forcedEntry s).pending = s.pending := by
  unfold forcedEntry; split <;> simp [raise, raiseMarked, refreshAlertOutput, appendTunnelRecord]

@[simp] theorem entryEyeBlocked_frame (s : State) :
    (entryEyeBlocked s).belt.forwardAcc = s.belt.forwardAcc ∧
    (entryEyeBlocked s).belt.odometer = s.belt.odometer ∧
    (entryEyeBlocked s).belt.reverseAcc = s.belt.reverseAcc ∧
    (entryEyeBlocked s).belt.reverseCount = s.belt.reverseCount ∧
    (entryEyeBlocked s).inputs = s.inputs ∧
    (entryEyeBlocked s).tunnel.slot = s.tunnel.slot ∧
    (entryEyeBlocked s).tunnel.lamp = s.tunnel.lamp ∧
    (entryEyeBlocked s).rinse = s.rinse ∧
    (entryEyeBlocked s).pacing.exitCause = s.pacing.exitCause ∧
    (entryEyeBlocked s).pacing.doorCause = s.pacing.doorCause ∧
    (entryEyeBlocked s).pacing.pauseCause = s.pacing.pauseCause ∧
    (entryEyeBlocked s).pacing.speedDemand = s.pacing.speedDemand ∧
    (entryEyeBlocked s).outbox = s.outbox ∧
    (entryEyeBlocked s).returns.stations = s.returns.stations ∧
    (entryEyeBlocked s).returns.pointers = s.returns.pointers ∧
    (entryEyeBlocked s).tray.congestionTimer = s.tray.congestionTimer ∧
    (entryEyeBlocked s).tray.congested = s.tray.congested ∧
    (entryEyeBlocked s).tray.lineHeld = s.tray.lineHeld ∧
    (entryEyeBlocked s).sup.draining = s.sup.draining ∧
    (entryEyeBlocked s).sup.lineHeld = s.sup.lineHeld ∧
    (entryEyeBlocked s).sup.mask = s.sup.mask ∧
    (entryEyeBlocked s).sup.storeOp = s.sup.storeOp ∧
    (entryEyeBlocked s).sup.lastSave = s.sup.lastSave ∧
    (entryEyeBlocked s).link = s.link ∧
    (entryEyeBlocked s).settings = s.settings ∧
    (entryEyeBlocked s).store = s.store ∧
    (entryEyeBlocked s).freeIndex = s.freeIndex ∧
    (entryEyeBlocked s).pending = s.pending := by
  unfold entryEyeBlocked; split <;> simp [appendTunnelRecord]

@[simp] theorem claimAtExit_frame (s : State) (n : Rack) :
    (claimAtExit s n).belt.forwardAcc = s.belt.forwardAcc ∧
    (claimAtExit s n).belt.odometer = s.belt.odometer ∧
    (claimAtExit s n).belt.reverseAcc = s.belt.reverseAcc ∧
    (claimAtExit s n).belt.reverseCount = s.belt.reverseCount ∧
    (claimAtExit s n).inputs = s.inputs ∧
    (claimAtExit s n).tunnel.slot = s.tunnel.slot ∧
    (claimAtExit s n).tunnel.lamp = s.tunnel.lamp ∧
    (claimAtExit s n).rinse = s.rinse ∧
    (claimAtExit s n).pacing.exitCause = s.pacing.exitCause ∧
    (claimAtExit s n).pacing.doorCause = s.pacing.doorCause ∧
    (claimAtExit s n).pacing.pauseCause = s.pacing.pauseCause ∧
    (claimAtExit s n).pacing.speedDemand = s.pacing.speedDemand ∧
    (claimAtExit s n).returns.stations = s.returns.stations ∧
    (claimAtExit s n).returns.pointers = s.returns.pointers ∧
    (claimAtExit s n).tray.congestionTimer = s.tray.congestionTimer ∧
    (claimAtExit s n).tray.congested = s.tray.congested ∧
    (claimAtExit s n).tray.lineHeld = s.tray.lineHeld ∧
    (claimAtExit s n).sup.draining = s.sup.draining ∧
    (claimAtExit s n).sup.lineHeld = s.sup.lineHeld ∧
    (claimAtExit s n).sup.mask = s.sup.mask ∧
    (claimAtExit s n).sup.storeOp = s.sup.storeOp ∧
    (claimAtExit s n).sup.lastSave = s.sup.lastSave ∧
    (claimAtExit s n).link = s.link ∧
    (claimAtExit s n).settings = s.settings ∧
    (claimAtExit s n).store = s.store ∧
    (claimAtExit s n).freeIndex = s.freeIndex ∧
    (claimAtExit s n).pending = s.pending := by
  unfold claimAtExit; split <;> simp [removeEnRoute]

@[simp] theorem extraAtExit_frame (s : State) :
    (extraAtExit s).belt = s.belt ∧
    (extraAtExit s).inputs = s.inputs ∧
    (extraAtExit s).readers = s.readers ∧
    (extraAtExit s).stage = s.stage ∧
    (extraAtExit s).tunnel.list = s.tunnel.list ∧
    (extraAtExit s).tunnel.lamp = s.tunnel.lamp ∧
    (extraAtExit s).rinse = s.rinse ∧
    (extraAtExit s).pacing = s.pacing ∧
    (extraAtExit s).outbox = s.outbox ∧
    (extraAtExit s).registry = s.registry ∧
    (extraAtExit s).returns = s.returns ∧
    (extraAtExit s).tray = s.tray ∧
    (extraAtExit s).sup.mode = s.sup.mode ∧
    (extraAtExit s).sup.draining = s.sup.draining ∧
    (extraAtExit s).sup.runOn = s.sup.runOn ∧
    (extraAtExit s).sup.lineHeld = s.sup.lineHeld ∧
    (extraAtExit s).sup.mask = s.sup.mask ∧
    (extraAtExit s).sup.storeOp = s.sup.storeOp ∧
    (extraAtExit s).sup.lastSave = s.sup.lastSave ∧
    (extraAtExit s).link = s.link ∧
    (extraAtExit s).settings = s.settings ∧
    (extraAtExit s).store = s.store ∧
    (extraAtExit s).freeIndex = s.freeIndex ∧
    (extraAtExit s).pending = s.pending := by
  unfold extraAtExit; dsimp only; split <;> simp [raise, raiseMarked, refreshAlertOutput, setSlot]

@[simp] theorem matchHead_frame (s : State) :
    (matchHead s).belt = s.belt ∧
    (matchHead s).inputs = s.inputs ∧
    (matchHead s).readers = s.readers ∧
    (matchHead s).stage = s.stage ∧
    (matchHead s).tunnel.lamp = s.tunnel.lamp ∧
    (matchHead s).rinse = s.rinse ∧
    (matchHead s).pacing = s.pacing ∧
    (matchHead s).outbox = s.outbox ∧
    (matchHead s).returns = s.returns ∧
    (matchHead s).tray = s.tray ∧
    (matchHead s).sup.mode = s.sup.mode ∧
    (matchHead s).sup.draining = s.sup.draining ∧
    (matchHead s).sup.runOn = s.sup.runOn ∧
    (matchHead s).sup.lineHeld = s.sup.lineHeld ∧
    (matchHead s).sup.mask = s.sup.mask ∧
    (matchHead s).sup.storeOp = s.sup.storeOp ∧
    (matchHead s).sup.lastSave = s.sup.lastSave ∧
    (matchHead s).link = s.link ∧
    (matchHead s).settings = s.settings ∧
    (matchHead s).store = s.store ∧
    (matchHead s).freeIndex = s.freeIndex ∧
    (matchHead s).pending = s.pending := by
  unfold matchHead; split <;> (try split) <;> simp

@[simp] theorem nameSlot_frame (s : State) (n : Rack) :
    (nameSlot s n).belt = s.belt ∧
    (nameSlot s n).inputs = s.inputs ∧
    (nameSlot s n).readers = s.readers ∧
    (nameSlot s n).stage = s.stage ∧
    (nameSlot s n).tunnel.list = s.tunnel.list ∧
    (nameSlot s n).tunnel.lamp = s.tunnel.lamp ∧
    (nameSlot s n).rinse = s.rinse ∧
    (nameSlot s n).pacing = s.pacing ∧
    (nameSlot s n).outbox = s.outbox ∧
    (nameSlot s n).registry = s.registry ∧
    (nameSlot s n).returns = s.returns ∧
    (nameSlot s n).tray = s.tray ∧
    (nameSlot s n).sup = s.sup ∧
    (nameSlot s n).link = s.link ∧
    (nameSlot s n).settings = s.settings ∧
    (nameSlot s n).store = s.store ∧
    (nameSlot s n).freeIndex = s.freeIndex ∧
    (nameSlot s n).pending = s.pending := by
  simp [nameSlot, changeSlot]

@[simp] theorem nameAndClose_frame (s : State) (n : Rack) :
    (nameAndClose s n).belt.forwardAcc = s.belt.forwardAcc ∧
    (nameAndClose s n).belt.odometer = s.belt.odometer ∧
    (nameAndClose s n).belt.reverseAcc = s.belt.reverseAcc ∧
    (nameAndClose s n).belt.reverseCount = s.belt.reverseCount ∧
    (nameAndClose s n).inputs = s.inputs ∧
    (nameAndClose s n).rinse = s.rinse ∧
    (nameAndClose s n).pacing.exitCause = s.pacing.exitCause ∧
    (nameAndClose s n).pacing.doorCause = s.pacing.doorCause ∧
    (nameAndClose s n).pacing.pauseCause = s.pacing.pauseCause ∧
    (nameAndClose s n).pacing.speedDemand = s.pacing.speedDemand ∧
    (nameAndClose s n).returns.stations = s.returns.stations ∧
    (nameAndClose s n).returns.pointers = s.returns.pointers ∧
    (nameAndClose s n).tray.congestionTimer = s.tray.congestionTimer ∧
    (nameAndClose s n).tray.congested = s.tray.congested ∧
    (nameAndClose s n).tray.lineHeld = s.tray.lineHeld ∧
    (nameAndClose s n).sup.draining = s.sup.draining ∧
    (nameAndClose s n).sup.lineHeld = s.sup.lineHeld ∧
    (nameAndClose s n).sup.mask = s.sup.mask ∧
    (nameAndClose s n).sup.storeOp = s.sup.storeOp ∧
    (nameAndClose s n).sup.lastSave = s.sup.lastSave ∧
    (nameAndClose s n).link = s.link ∧
    (nameAndClose s n).settings = s.settings ∧
    (nameAndClose s n).store = s.store ∧
    (nameAndClose s n).freeIndex = s.freeIndex ∧
    (nameAndClose s n).pending = s.pending := by
  simp [nameAndClose]

@[simp] theorem repairExit_frame (s : State) (k : ExitRecord) (h : TunnelRecord) :
    (repairExit s k h).belt = s.belt ∧
    (repairExit s k h).inputs = s.inputs ∧
    (repairExit s k h).readers = s.readers ∧
    (repairExit s k h).stage = s.stage ∧
    (repairExit s k h).rinse = s.rinse ∧
    (repairExit s k h).pacing = s.pacing ∧
    (repairExit s k h).returns = s.returns ∧
    (repairExit s k h).tray = s.tray ∧
    (repairExit s k h).sup.mode = s.sup.mode ∧
    (repairExit s k h).sup.draining = s.sup.draining ∧
    (repairExit s k h).sup.runOn = s.sup.runOn ∧
    (repairExit s k h).sup.lineHeld = s.sup.lineHeld ∧
    (repairExit s k h).sup.mask = s.sup.mask ∧
    (repairExit s k h).sup.storeOp = s.sup.storeOp ∧
    (repairExit s k h).sup.lastSave = s.sup.lastSave ∧
    (repairExit s k h).link = s.link ∧
    (repairExit s k h).settings = s.settings ∧
    (repairExit s k h).store = s.store ∧
    (repairExit s k h).freeIndex = s.freeIndex ∧
    (repairExit s k h).pending = s.pending := by
  simp [repairExit]

@[simp] theorem swapExit_frame (s : State) (m n : Rack) :
    (swapExit s m n).belt.forwardAcc = s.belt.forwardAcc ∧
    (swapExit s m n).belt.odometer = s.belt.odometer ∧
    (swapExit s m n).belt.reverseAcc = s.belt.reverseAcc ∧
    (swapExit s m n).belt.reverseCount = s.belt.reverseCount ∧
    (swapExit s m n).inputs = s.inputs ∧
    (swapExit s m n).rinse = s.rinse ∧
    (swapExit s m n).pacing.exitCause = s.pacing.exitCause ∧
    (swapExit s m n).pacing.doorCause = s.pacing.doorCause ∧
    (swapExit s m n).pacing.pauseCause = s.pacing.pauseCause ∧
    (swapExit s m n).pacing.speedDemand = s.pacing.speedDemand ∧
    (swapExit s m n).returns.stations = s.returns.stations ∧
    (swapExit s m n).returns.pointers = s.returns.pointers ∧
    (swapExit s m n).tray.congestionTimer = s.tray.congestionTimer ∧
    (swapExit s m n).tray.congested = s.tray.congested ∧
    (swapExit s m n).tray.lineHeld = s.tray.lineHeld ∧
    (swapExit s m n).sup.draining = s.sup.draining ∧
    (swapExit s m n).sup.lineHeld = s.sup.lineHeld ∧
    (swapExit s m n).sup.mask = s.sup.mask ∧
    (swapExit s m n).sup.storeOp = s.sup.storeOp ∧
    (swapExit s m n).sup.lastSave = s.sup.lastSave ∧
    (swapExit s m n).link = s.link ∧
    (swapExit s m n).settings = s.settings ∧
    (swapExit s m n).store = s.store ∧
    (swapExit s m n).freeIndex = s.freeIndex ∧
    (swapExit s m n).pending = s.pending := by
  simp [swapExit, raise, raiseMarked, refreshAlertOutput]

@[simp] theorem exitRead_frame (s : State) (k : ExitRecord) (n : Rack) :
    (exitRead s k n).belt.forwardAcc = s.belt.forwardAcc ∧
    (exitRead s k n).belt.odometer = s.belt.odometer ∧
    (exitRead s k n).belt.reverseAcc = s.belt.reverseAcc ∧
    (exitRead s k n).belt.reverseCount = s.belt.reverseCount ∧
    (exitRead s k n).inputs = s.inputs ∧
    (exitRead s k n).rinse = s.rinse ∧
    (exitRead s k n).pacing.exitCause = s.pacing.exitCause ∧
    (exitRead s k n).pacing.doorCause = s.pacing.doorCause ∧
    (exitRead s k n).pacing.pauseCause = s.pacing.pauseCause ∧
    (exitRead s k n).pacing.speedDemand = s.pacing.speedDemand ∧
    (exitRead s k n).returns.stations = s.returns.stations ∧
    (exitRead s k n).returns.pointers = s.returns.pointers ∧
    (exitRead s k n).tray.congestionTimer = s.tray.congestionTimer ∧
    (exitRead s k n).tray.congested = s.tray.congested ∧
    (exitRead s k n).tray.lineHeld = s.tray.lineHeld ∧
    (exitRead s k n).sup.draining = s.sup.draining ∧
    (exitRead s k n).sup.lineHeld = s.sup.lineHeld ∧
    (exitRead s k n).sup.mask = s.sup.mask ∧
    (exitRead s k n).sup.storeOp = s.sup.storeOp ∧
    (exitRead s k n).sup.lastSave = s.sup.lastSave ∧
    (exitRead s k n).link = s.link ∧
    (exitRead s k n).settings = s.settings ∧
    (exitRead s k n).store = s.store ∧
    (exitRead s k n).freeIndex = s.freeIndex ∧
    (exitRead s k n).pending = s.pending := by
  unfold exitRead; split <;> (try split) <;> (try split) <;> simp

@[simp] theorem exitOutcome_frame (s : State) (o : ReadOutcome) :
    (exitOutcome s o).belt.forwardAcc = s.belt.forwardAcc ∧
    (exitOutcome s o).belt.odometer = s.belt.odometer ∧
    (exitOutcome s o).belt.reverseAcc = s.belt.reverseAcc ∧
    (exitOutcome s o).belt.reverseCount = s.belt.reverseCount ∧
    (exitOutcome s o).inputs = s.inputs ∧
    (exitOutcome s o).rinse = s.rinse ∧
    (exitOutcome s o).pacing.exitCause = s.pacing.exitCause ∧
    (exitOutcome s o).pacing.doorCause = s.pacing.doorCause ∧
    (exitOutcome s o).pacing.pauseCause = s.pacing.pauseCause ∧
    (exitOutcome s o).pacing.speedDemand = s.pacing.speedDemand ∧
    (exitOutcome s o).returns.stations = s.returns.stations ∧
    (exitOutcome s o).returns.pointers = s.returns.pointers ∧
    (exitOutcome s o).tray.congestionTimer = s.tray.congestionTimer ∧
    (exitOutcome s o).tray.congested = s.tray.congested ∧
    (exitOutcome s o).tray.lineHeld = s.tray.lineHeld ∧
    (exitOutcome s o).sup.draining = s.sup.draining ∧
    (exitOutcome s o).sup.lineHeld = s.sup.lineHeld ∧
    (exitOutcome s o).sup.mask = s.sup.mask ∧
    (exitOutcome s o).sup.storeOp = s.sup.storeOp ∧
    (exitOutcome s o).sup.lastSave = s.sup.lastSave ∧
    (exitOutcome s o).link = s.link ∧
    (exitOutcome s o).settings = s.settings ∧
    (exitOutcome s o).store = s.store ∧
    (exitOutcome s o).freeIndex = s.freeIndex ∧
    (exitOutcome s o).pending = s.pending := by
  unfold exitOutcome; split <;> (try split) <;> simp

@[simp] theorem claimAtReturn_frame (s : State) (n : Rack) :
    (claimAtReturn s n).belt.forwardAcc = s.belt.forwardAcc ∧
    (claimAtReturn s n).belt.odometer = s.belt.odometer ∧
    (claimAtReturn s n).belt.reverseAcc = s.belt.reverseAcc ∧
    (claimAtReturn s n).belt.reverseCount = s.belt.reverseCount ∧
    (claimAtReturn s n).inputs = s.inputs ∧
    (claimAtReturn s n).rinse = s.rinse ∧
    (claimAtReturn s n).pacing.exitCause = s.pacing.exitCause ∧
    (claimAtReturn s n).pacing.doorCause = s.pacing.doorCause ∧
    (claimAtReturn s n).pacing.pauseCause = s.pacing.pauseCause ∧
    (claimAtReturn s n).pacing.speedDemand = s.pacing.speedDemand ∧
    (claimAtReturn s n).returns.stations = s.returns.stations ∧
    (claimAtReturn s n).returns.pointers = s.returns.pointers ∧
    (claimAtReturn s n).tray.congestionTimer = s.tray.congestionTimer ∧
    (claimAtReturn s n).tray.congested = s.tray.congested ∧
    (claimAtReturn s n).tray.lineHeld = s.tray.lineHeld ∧
    (claimAtReturn s n).sup.draining = s.sup.draining ∧
    (claimAtReturn s n).sup.lineHeld = s.sup.lineHeld ∧
    (claimAtReturn s n).sup.mask = s.sup.mask ∧
    (claimAtReturn s n).sup.storeOp = s.sup.storeOp ∧
    (claimAtReturn s n).sup.lastSave = s.sup.lastSave ∧
    (claimAtReturn s n).link = s.link ∧
    (claimAtReturn s n).settings = s.settings ∧
    (claimAtReturn s n).store = s.store ∧
    (claimAtReturn s n).freeIndex = s.freeIndex ∧
    (claimAtReturn s n).pending = s.pending := by
  unfold claimAtReturn; split <;> simp [removeEnRoute]

@[simp] theorem movePointer_frame (s : State) (c : RackClass) (k : Option Station) :
    (movePointer s c k).belt = s.belt ∧
    (movePointer s c k).inputs = s.inputs ∧
    (movePointer s c k).readers = s.readers ∧
    (movePointer s c k).stage = s.stage ∧
    (movePointer s c k).tunnel = s.tunnel ∧
    (movePointer s c k).rinse = s.rinse ∧
    (movePointer s c k).pacing = s.pacing ∧
    (movePointer s c k).outbox = s.outbox ∧
    (movePointer s c k).registry = s.registry ∧
    (movePointer s c k).returns.stations = s.returns.stations ∧
    (movePointer s c k).returns.enRoute = s.returns.enRoute ∧
    (movePointer s c k).returns.diverters = s.returns.diverters ∧
    (movePointer s c k).returns.returnBelt = s.returns.returnBelt ∧
    (movePointer s c k).tray = s.tray ∧
    (movePointer s c k).sup = s.sup ∧
    (movePointer s c k).link = s.link ∧
    (movePointer s c k).settings = s.settings ∧
    (movePointer s c k).store = s.store ∧
    (movePointer s c k).freeIndex = s.freeIndex ∧
    (movePointer s c k).pending = s.pending := by
  unfold movePointer; split <;> simp

@[simp] theorem skipRewash_frame (s : State) (n : Rack) (w : Row) :
    (skipRewash s n w).belt = s.belt ∧
    (skipRewash s n w).inputs = s.inputs ∧
    (skipRewash s n w).readers = s.readers ∧
    (skipRewash s n w).stage = s.stage ∧
    (skipRewash s n w).tunnel = s.tunnel ∧
    (skipRewash s n w).rinse = s.rinse ∧
    (skipRewash s n w).pacing = s.pacing ∧
    (skipRewash s n w).outbox = s.outbox ∧
    (skipRewash s n w).returns = s.returns ∧
    (skipRewash s n w).tray = s.tray ∧
    (skipRewash s n w).sup.mode = s.sup.mode ∧
    (skipRewash s n w).sup.draining = s.sup.draining ∧
    (skipRewash s n w).sup.runOn = s.sup.runOn ∧
    (skipRewash s n w).sup.lineHeld = s.sup.lineHeld ∧
    (skipRewash s n w).sup.mask = s.sup.mask ∧
    (skipRewash s n w).sup.storeOp = s.sup.storeOp ∧
    (skipRewash s n w).sup.lastSave = s.sup.lastSave ∧
    (skipRewash s n w).link = s.link ∧
    (skipRewash s n w).settings = s.settings ∧
    (skipRewash s n w).store = s.store ∧
    (skipRewash s n w).freeIndex = s.freeIndex ∧
    (skipRewash s n w).pending = s.pending := by
  unfold skipRewash; split <;> simp [raise, raiseMarked, refreshAlertOutput]

@[simp] theorem loseRack_frame (s : State) (e : EnRoute) :
    (loseRack s e).belt = s.belt ∧
    (loseRack s e).inputs = s.inputs ∧
    (loseRack s e).readers = s.readers ∧
    (loseRack s e).stage = s.stage ∧
    (loseRack s e).tunnel = s.tunnel ∧
    (loseRack s e).rinse = s.rinse ∧
    (loseRack s e).pacing = s.pacing ∧
    (loseRack s e).outbox = s.outbox ∧
    (loseRack s e).returns = s.returns ∧
    (loseRack s e).tray = s.tray ∧
    (loseRack s e).sup.mode = s.sup.mode ∧
    (loseRack s e).sup.draining = s.sup.draining ∧
    (loseRack s e).sup.runOn = s.sup.runOn ∧
    (loseRack s e).sup.lineHeld = s.sup.lineHeld ∧
    (loseRack s e).sup.mask = s.sup.mask ∧
    (loseRack s e).sup.storeOp = s.sup.storeOp ∧
    (loseRack s e).sup.lastSave = s.sup.lastSave ∧
    (loseRack s e).link = s.link ∧
    (loseRack s e).settings = s.settings ∧
    (loseRack s e).store = s.store ∧
    (loseRack s e).freeIndex = s.freeIndex ∧
    (loseRack s e).pending = s.pending := by
  simp [loseRack, raise, raiseMarked, refreshAlertOutput]

@[simp] theorem dropOldest_frame (s : State) :
    (dropOldest s).belt = s.belt ∧
    (dropOldest s).inputs = s.inputs ∧
    (dropOldest s).readers = s.readers ∧
    (dropOldest s).stage = s.stage ∧
    (dropOldest s).tunnel = s.tunnel ∧
    (dropOldest s).rinse = s.rinse ∧
    (dropOldest s).pacing = s.pacing ∧
    (dropOldest s).outbox = s.outbox ∧
    (dropOldest s).returns.stations = s.returns.stations ∧
    (dropOldest s).returns.pointers = s.returns.pointers ∧
    (dropOldest s).returns.diverters = s.returns.diverters ∧
    (dropOldest s).returns.returnBelt = s.returns.returnBelt ∧
    (dropOldest s).tray = s.tray ∧
    (dropOldest s).sup.mode = s.sup.mode ∧
    (dropOldest s).sup.draining = s.sup.draining ∧
    (dropOldest s).sup.runOn = s.sup.runOn ∧
    (dropOldest s).sup.lineHeld = s.sup.lineHeld ∧
    (dropOldest s).sup.mask = s.sup.mask ∧
    (dropOldest s).sup.storeOp = s.sup.storeOp ∧
    (dropOldest s).sup.lastSave = s.sup.lastSave ∧
    (dropOldest s).link = s.link ∧
    (dropOldest s).settings = s.settings ∧
    (dropOldest s).store = s.store ∧
    (dropOldest s).freeIndex = s.freeIndex ∧
    (dropOldest s).pending = s.pending := by
  unfold dropOldest; split <;> (try split) <;> simp

@[simp] theorem appendEnRoute_frame (s : State) (r : Option Rack) (k : Option Station) :
    (appendEnRoute s r k).belt = s.belt ∧
    (appendEnRoute s r k).inputs = s.inputs ∧
    (appendEnRoute s r k).readers = s.readers ∧
    (appendEnRoute s r k).stage = s.stage ∧
    (appendEnRoute s r k).tunnel = s.tunnel ∧
    (appendEnRoute s r k).rinse = s.rinse ∧
    (appendEnRoute s r k).pacing = s.pacing ∧
    (appendEnRoute s r k).outbox = s.outbox ∧
    (appendEnRoute s r k).returns.stations = s.returns.stations ∧
    (appendEnRoute s r k).returns.pointers = s.returns.pointers ∧
    (appendEnRoute s r k).returns.diverters = s.returns.diverters ∧
    (appendEnRoute s r k).returns.returnBelt = s.returns.returnBelt ∧
    (appendEnRoute s r k).tray = s.tray ∧
    (appendEnRoute s r k).sup.mode = s.sup.mode ∧
    (appendEnRoute s r k).sup.draining = s.sup.draining ∧
    (appendEnRoute s r k).sup.runOn = s.sup.runOn ∧
    (appendEnRoute s r k).sup.lineHeld = s.sup.lineHeld ∧
    (appendEnRoute s r k).sup.mask = s.sup.mask ∧
    (appendEnRoute s r k).sup.storeOp = s.sup.storeOp ∧
    (appendEnRoute s r k).sup.lastSave = s.sup.lastSave ∧
    (appendEnRoute s r k).link = s.link ∧
    (appendEnRoute s r k).settings = s.settings ∧
    (appendEnRoute s r k).store = s.store ∧
    (appendEnRoute s r k).freeIndex = s.freeIndex ∧
    (appendEnRoute s r k).pending = s.pending := by
  simp [appendEnRoute]

@[simp] theorem dispatchRead_frame (s : State) (n : Rack) (q : Bool) :
    (dispatchRead s n q).belt = s.belt ∧
    (dispatchRead s n q).inputs = s.inputs ∧
    (dispatchRead s n q).readers = s.readers ∧
    (dispatchRead s n q).stage = s.stage ∧
    (dispatchRead s n q).tunnel = s.tunnel ∧
    (dispatchRead s n q).rinse = s.rinse ∧
    (dispatchRead s n q).pacing = s.pacing ∧
    (dispatchRead s n q).outbox = s.outbox ∧
    (dispatchRead s n q).returns.stations = s.returns.stations ∧
    (dispatchRead s n q).returns.diverters = s.returns.diverters ∧
    (dispatchRead s n q).returns.returnBelt = s.returns.returnBelt ∧
    (dispatchRead s n q).tray = s.tray ∧
    (dispatchRead s n q).sup.mode = s.sup.mode ∧
    (dispatchRead s n q).sup.draining = s.sup.draining ∧
    (dispatchRead s n q).sup.runOn = s.sup.runOn ∧
    (dispatchRead s n q).sup.lineHeld = s.sup.lineHeld ∧
    (dispatchRead s n q).sup.mask = s.sup.mask ∧
    (dispatchRead s n q).sup.storeOp = s.sup.storeOp ∧
    (dispatchRead s n q).sup.lastSave = s.sup.lastSave ∧
    (dispatchRead s n q).link = s.link ∧
    (dispatchRead s n q).settings = s.settings ∧
    (dispatchRead s n q).store = s.store ∧
    (dispatchRead s n q).freeIndex = s.freeIndex ∧
    (dispatchRead s n q).pending = s.pending := by
  unfold dispatchRead; split <;> (try split) <;> (try split) <;> simp

@[simp] theorem returnOutcome_frame (s : State) (o : ReadOutcome) :
    (returnOutcome s o).belt.forwardAcc = s.belt.forwardAcc ∧
    (returnOutcome s o).belt.odometer = s.belt.odometer ∧
    (returnOutcome s o).belt.reverseAcc = s.belt.reverseAcc ∧
    (returnOutcome s o).belt.reverseCount = s.belt.reverseCount ∧
    (returnOutcome s o).inputs = s.inputs ∧
    (returnOutcome s o).rinse = s.rinse ∧
    (returnOutcome s o).pacing.exitCause = s.pacing.exitCause ∧
    (returnOutcome s o).pacing.doorCause = s.pacing.doorCause ∧
    (returnOutcome s o).pacing.pauseCause = s.pacing.pauseCause ∧
    (returnOutcome s o).pacing.speedDemand = s.pacing.speedDemand ∧
    (returnOutcome s o).returns.stations = s.returns.stations ∧
    (returnOutcome s o).tray.congestionTimer = s.tray.congestionTimer ∧
    (returnOutcome s o).tray.congested = s.tray.congested ∧
    (returnOutcome s o).tray.lineHeld = s.tray.lineHeld ∧
    (returnOutcome s o).sup.draining = s.sup.draining ∧
    (returnOutcome s o).sup.lineHeld = s.sup.lineHeld ∧
    (returnOutcome s o).sup.mask = s.sup.mask ∧
    (returnOutcome s o).sup.storeOp = s.sup.storeOp ∧
    (returnOutcome s o).sup.lastSave = s.sup.lastSave ∧
    (returnOutcome s o).link = s.link ∧
    (returnOutcome s o).settings = s.settings ∧
    (returnOutcome s o).store = s.store ∧
    (returnOutcome s o).freeIndex = s.freeIndex ∧
    (returnOutcome s o).pending = s.pending := by
  unfold returnOutcome; split <;> simp

@[simp] theorem pulseDiverter_frame (s : State) (k : Station) :
    (pulseDiverter s k).belt = s.belt ∧
    (pulseDiverter s k).inputs = s.inputs ∧
    (pulseDiverter s k).readers = s.readers ∧
    (pulseDiverter s k).stage = s.stage ∧
    (pulseDiverter s k).tunnel = s.tunnel ∧
    (pulseDiverter s k).rinse = s.rinse ∧
    (pulseDiverter s k).pacing = s.pacing ∧
    (pulseDiverter s k).outbox = s.outbox ∧
    (pulseDiverter s k).registry = s.registry ∧
    (pulseDiverter s k).returns.stations = s.returns.stations ∧
    (pulseDiverter s k).returns.enRoute = s.returns.enRoute ∧
    (pulseDiverter s k).returns.pointers = s.returns.pointers ∧
    (pulseDiverter s k).returns.returnBelt = s.returns.returnBelt ∧
    (pulseDiverter s k).tray = s.tray ∧
    (pulseDiverter s k).sup = s.sup ∧
    (pulseDiverter s k).link = s.link ∧
    (pulseDiverter s k).settings = s.settings ∧
    (pulseDiverter s k).store = s.store ∧
    (pulseDiverter s k).freeIndex = s.freeIndex ∧
    (pulseDiverter s k).pending = s.pending := by
  unfold pulseDiverter; split <;> simp

@[simp] theorem diverterEyeBlocked_frame (s : State) (k : Station) :
    (diverterEyeBlocked s k).belt = s.belt ∧
    (diverterEyeBlocked s k).inputs = s.inputs ∧
    (diverterEyeBlocked s k).readers = s.readers ∧
    (diverterEyeBlocked s k).stage = s.stage ∧
    (diverterEyeBlocked s k).tunnel = s.tunnel ∧
    (diverterEyeBlocked s k).rinse = s.rinse ∧
    (diverterEyeBlocked s k).pacing = s.pacing ∧
    (diverterEyeBlocked s k).outbox = s.outbox ∧
    (diverterEyeBlocked s k).returns.stations = s.returns.stations ∧
    (diverterEyeBlocked s k).returns.pointers = s.returns.pointers ∧
    (diverterEyeBlocked s k).returns.returnBelt = s.returns.returnBelt ∧
    (diverterEyeBlocked s k).tray = s.tray ∧
    (diverterEyeBlocked s k).sup.mode = s.sup.mode ∧
    (diverterEyeBlocked s k).sup.draining = s.sup.draining ∧
    (diverterEyeBlocked s k).sup.runOn = s.sup.runOn ∧
    (diverterEyeBlocked s k).sup.lineHeld = s.sup.lineHeld ∧
    (diverterEyeBlocked s k).sup.mask = s.sup.mask ∧
    (diverterEyeBlocked s k).sup.storeOp = s.sup.storeOp ∧
    (diverterEyeBlocked s k).sup.lastSave = s.sup.lastSave ∧
    (diverterEyeBlocked s k).link = s.link ∧
    (diverterEyeBlocked s k).settings = s.settings ∧
    (diverterEyeBlocked s k).store = s.store ∧
    (diverterEyeBlocked s k).freeIndex = s.freeIndex ∧
    (diverterEyeBlocked s k).pending = s.pending := by
  unfold diverterEyeBlocked; split <;> (try split) <;> (try split) <;> simp [raise, raiseMarked, refreshAlertOutput, removeEntry, moveEntryOn]

@[simp] theorem returnEndBlocked_frame (s : State) :
    (returnEndBlocked s).belt = s.belt ∧
    (returnEndBlocked s).inputs = s.inputs ∧
    (returnEndBlocked s).readers = s.readers ∧
    (returnEndBlocked s).stage = s.stage ∧
    (returnEndBlocked s).tunnel = s.tunnel ∧
    (returnEndBlocked s).rinse = s.rinse ∧
    (returnEndBlocked s).pacing = s.pacing ∧
    (returnEndBlocked s).outbox = s.outbox ∧
    (returnEndBlocked s).returns.stations = s.returns.stations ∧
    (returnEndBlocked s).returns.pointers = s.returns.pointers ∧
    (returnEndBlocked s).returns.diverters = s.returns.diverters ∧
    (returnEndBlocked s).returns.returnBelt = s.returns.returnBelt ∧
    (returnEndBlocked s).tray = s.tray ∧
    (returnEndBlocked s).sup.mode = s.sup.mode ∧
    (returnEndBlocked s).sup.draining = s.sup.draining ∧
    (returnEndBlocked s).sup.runOn = s.sup.runOn ∧
    (returnEndBlocked s).sup.lineHeld = s.sup.lineHeld ∧
    (returnEndBlocked s).sup.mask = s.sup.mask ∧
    (returnEndBlocked s).sup.storeOp = s.sup.storeOp ∧
    (returnEndBlocked s).sup.lastSave = s.sup.lastSave ∧
    (returnEndBlocked s).link = s.link ∧
    (returnEndBlocked s).settings = s.settings ∧
    (returnEndBlocked s).store = s.store ∧
    (returnEndBlocked s).freeIndex = s.freeIndex ∧
    (returnEndBlocked s).pending = s.pending := by
  unfold returnEndBlocked; split <;> (try split) <;> simp [raise, raiseMarked, refreshAlertOutput, removeEntry]

@[simp] theorem loseEntry_frame (s : State) (i : Nat) :
    (loseEntry s i).belt = s.belt ∧
    (loseEntry s i).inputs = s.inputs ∧
    (loseEntry s i).readers = s.readers ∧
    (loseEntry s i).stage = s.stage ∧
    (loseEntry s i).tunnel = s.tunnel ∧
    (loseEntry s i).rinse = s.rinse ∧
    (loseEntry s i).pacing = s.pacing ∧
    (loseEntry s i).outbox = s.outbox ∧
    (loseEntry s i).returns.stations = s.returns.stations ∧
    (loseEntry s i).returns.pointers = s.returns.pointers ∧
    (loseEntry s i).returns.diverters = s.returns.diverters ∧
    (loseEntry s i).returns.returnBelt = s.returns.returnBelt ∧
    (loseEntry s i).tray = s.tray ∧
    (loseEntry s i).sup.mode = s.sup.mode ∧
    (loseEntry s i).sup.draining = s.sup.draining ∧
    (loseEntry s i).sup.runOn = s.sup.runOn ∧
    (loseEntry s i).sup.lineHeld = s.sup.lineHeld ∧
    (loseEntry s i).sup.mask = s.sup.mask ∧
    (loseEntry s i).sup.storeOp = s.sup.storeOp ∧
    (loseEntry s i).sup.lastSave = s.sup.lastSave ∧
    (loseEntry s i).link = s.link ∧
    (loseEntry s i).settings = s.settings ∧
    (loseEntry s i).store = s.store ∧
    (loseEntry s i).freeIndex = s.freeIndex ∧
    (loseEntry s i).pending = s.pending := by
  unfold loseEntry; split <;> (try split) <;> simp [removeEntry]

@[simp] theorem setTrayChannel_frame (s : State) (b : TrayBelt) (c : TrayChannel) :
    (setTrayChannel s b c).belt = s.belt ∧
    (setTrayChannel s b c).inputs = s.inputs ∧
    (setTrayChannel s b c).readers = s.readers ∧
    (setTrayChannel s b c).stage = s.stage ∧
    (setTrayChannel s b c).tunnel = s.tunnel ∧
    (setTrayChannel s b c).rinse = s.rinse ∧
    (setTrayChannel s b c).pacing = s.pacing ∧
    (setTrayChannel s b c).outbox = s.outbox ∧
    (setTrayChannel s b c).registry = s.registry ∧
    (setTrayChannel s b c).returns = s.returns ∧
    (setTrayChannel s b c).tray.congestionTimer = s.tray.congestionTimer ∧
    (setTrayChannel s b c).tray.congested = s.tray.congested ∧
    (setTrayChannel s b c).tray.lineHeld = s.tray.lineHeld ∧
    (setTrayChannel s b c).sup = s.sup ∧
    (setTrayChannel s b c).link = s.link ∧
    (setTrayChannel s b c).settings = s.settings ∧
    (setTrayChannel s b c).store = s.store ∧
    (setTrayChannel s b c).freeIndex = s.freeIndex ∧
    (setTrayChannel s b c).pending = s.pending := by
  cases b <;> simp [setTrayChannel]

@[simp] theorem trayArrives_frame (s : State) (b : TrayBelt) :
    (trayArrives s b).belt = s.belt ∧
    (trayArrives s b).inputs = s.inputs ∧
    (trayArrives s b).readers = s.readers ∧
    (trayArrives s b).stage = s.stage ∧
    (trayArrives s b).tunnel = s.tunnel ∧
    (trayArrives s b).rinse = s.rinse ∧
    (trayArrives s b).pacing = s.pacing ∧
    (trayArrives s b).outbox = s.outbox ∧
    (trayArrives s b).registry = s.registry ∧
    (trayArrives s b).returns = s.returns ∧
    (trayArrives s b).tray.congestionTimer = s.tray.congestionTimer ∧
    (trayArrives s b).tray.congested = s.tray.congested ∧
    (trayArrives s b).tray.lineHeld = s.tray.lineHeld ∧
    (trayArrives s b).sup.mode = s.sup.mode ∧
    (trayArrives s b).sup.draining = s.sup.draining ∧
    (trayArrives s b).sup.runOn = s.sup.runOn ∧
    (trayArrives s b).sup.lineHeld = s.sup.lineHeld ∧
    (trayArrives s b).sup.mask = s.sup.mask ∧
    (trayArrives s b).sup.storeOp = s.sup.storeOp ∧
    (trayArrives s b).sup.lastSave = s.sup.lastSave ∧
    (trayArrives s b).link = s.link ∧
    (trayArrives s b).settings = s.settings ∧
    (trayArrives s b).store = s.store ∧
    (trayArrives s b).freeIndex = s.freeIndex ∧
    (trayArrives s b).pending = s.pending := by
  unfold trayArrives; dsimp only; split <;> (try split) <;> (try split) <;> simp [raise, raiseMarked, refreshAlertOutput]

@[simp] theorem headFullChange_frame (s : State) (b : TrayBelt) (a : Bool) :
    (headFullChange s b a).belt = s.belt ∧
    (headFullChange s b a).inputs = s.inputs ∧
    (headFullChange s b a).readers = s.readers ∧
    (headFullChange s b a).stage = s.stage ∧
    (headFullChange s b a).tunnel = s.tunnel ∧
    (headFullChange s b a).rinse = s.rinse ∧
    (headFullChange s b a).pacing = s.pacing ∧
    (headFullChange s b a).outbox = s.outbox ∧
    (headFullChange s b a).registry = s.registry ∧
    (headFullChange s b a).returns = s.returns ∧
    (headFullChange s b a).tray.congestionTimer = s.tray.congestionTimer ∧
    (headFullChange s b a).tray.congested = s.tray.congested ∧
    (headFullChange s b a).tray.lineHeld = s.tray.lineHeld ∧
    (headFullChange s b a).sup = s.sup ∧
    (headFullChange s b a).link = s.link ∧
    (headFullChange s b a).settings = s.settings ∧
    (headFullChange s b a).store = s.store ∧
    (headFullChange s b a).freeIndex = s.freeIndex ∧
    (headFullChange s b a).pending = s.pending := by
  unfold headFullChange; dsimp only; split <;> simp

@[simp] theorem holdTimerEnds_frame (s : State) (b : TrayBelt) :
    (holdTimerEnds s b).belt = s.belt ∧
    (holdTimerEnds s b).inputs = s.inputs ∧
    (holdTimerEnds s b).readers = s.readers ∧
    (holdTimerEnds s b).stage = s.stage ∧
    (holdTimerEnds s b).tunnel = s.tunnel ∧
    (holdTimerEnds s b).rinse = s.rinse ∧
    (holdTimerEnds s b).pacing = s.pacing ∧
    (holdTimerEnds s b).outbox = s.outbox ∧
    (holdTimerEnds s b).registry = s.registry ∧
    (holdTimerEnds s b).returns = s.returns ∧
    (holdTimerEnds s b).tray.congestionTimer = s.tray.congestionTimer ∧
    (holdTimerEnds s b).tray.congested = s.tray.congested ∧
    (holdTimerEnds s b).tray.lineHeld = s.tray.lineHeld ∧
    (holdTimerEnds s b).sup = s.sup ∧
    (holdTimerEnds s b).link = s.link ∧
    (holdTimerEnds s b).settings = s.settings ∧
    (holdTimerEnds s b).store = s.store ∧
    (holdTimerEnds s b).freeIndex = s.freeIndex ∧
    (holdTimerEnds s b).pending = s.pending := by
  unfold holdTimerEnds; dsimp only; split <;> (try split) <;> simp

@[simp] theorem runOnStep_frame (s : State) :
    (runOnStep s).belt = s.belt ∧
    (runOnStep s).inputs = s.inputs ∧
    (runOnStep s).readers = s.readers ∧
    (runOnStep s).stage = s.stage ∧
    (runOnStep s).tunnel = s.tunnel ∧
    (runOnStep s).rinse = s.rinse ∧
    (runOnStep s).pacing = s.pacing ∧
    (runOnStep s).outbox = s.outbox ∧
    (runOnStep s).registry = s.registry ∧
    (runOnStep s).returns = s.returns ∧
    (runOnStep s).tray = s.tray ∧
    (runOnStep s).sup.mode = s.sup.mode ∧
    (runOnStep s).sup.draining = s.sup.draining ∧
    (runOnStep s).sup.lineHeld = s.sup.lineHeld ∧
    (runOnStep s).sup.alerts = s.sup.alerts ∧
    (runOnStep s).sup.mask = s.sup.mask ∧
    (runOnStep s).sup.alertOutput = s.sup.alertOutput ∧
    (runOnStep s).sup.storeOp = s.sup.storeOp ∧
    (runOnStep s).sup.lastSave = s.sup.lastSave ∧
    (runOnStep s).link = s.link ∧
    (runOnStep s).settings = s.settings ∧
    (runOnStep s).store = s.store ∧
    (runOnStep s).freeIndex = s.freeIndex ∧
    (runOnStep s).pending = s.pending := by
  unfold runOnStep; split <;> simp

end Sys2Proof.Laws
end

