-- ==== Sys2Proof/Laws/Operations.lean ====
section
/-! SUPPORT. What the shared operations do: the one field or block that each of them changes, said once. The blocks
that it leaves alone are in Laws/State.lean and Laws/Frames.lean. -/

namespace Sys2Proof.Laws

open Sys2Proof.Machine

/-! ## Names and their places in tables -/

theorem input_index_injective (i j : Input) : i.index = j.index ↔ i = j := by
  constructor
  · cases i <;> cases j <;> simp [Input.index]
  · rintro rfl; rfl

theorem alert_index_injective (i j : AlertKind) : i.index = j.index ↔ i = j := by
  constructor
  · cases i <;> cases j <;> simp [AlertKind.index]
  · rintro rfl; rfl

/-- The parameter names in the order of their indices. -/
theorem param_all_getElem (p : Param) : Param.all[p.index.val]? = some p := by cases p <;> rfl

theorem param_index_injective (p q : Param) : p.index = q.index ↔ p = q := by
  constructor
  · intro h
    have hp := param_all_getElem p
    rw [h, param_all_getElem q] at hp
    exact (Option.some.inj hp).symm
  · rintro rfl; rfl

theorem alert_mem_all (k : AlertKind) : k ∈ AlertKind.all := by cases k <;> simp [AlertKind.all]

theorem input_mem_all (i : Input) : i ∈ Input.all := by cases i <;> simp [Input.all]

/-! ## Vectors -/

theorem vectorOf_getElem {α : Type} (n : Nat) (xs : List α) (filler : α) (i : Nat) (h : i < n) :
    (vectorOf n xs filler)[i] = (xs[i]?).getD filler := by
  simp [vectorOf]

theorem vectorMap_getElem {α β : Type} {n : Nat} (f : α → β) (v : Vector α n) (i : Nat) (h : i < n) :
    (vectorMap f v)[i] = f v[i] := by
  simp [vectorMap]

/-! ## Parameters, inputs and readers -/

@[simp] theorem paramGet_paramSet (c : Settings) (p q : Param) (v : Nat) :
    paramGet (paramSet c p v) q = if p = q then v else paramGet c q := by
  have h := param_index_injective p q
  simp only [paramGet, paramSet, Fin.getElem_fin, Vector.getElem_set, ← Fin.ext_iff, h]

@[simp] theorem channel_setChannel (s : State) (i j : Input) (c : InputChannel) :
    channel (setChannel s i c) j = if i = j then c else channel s j := by
  have h := input_index_injective i j
  simp only [channel, setChannel, Fin.getElem_fin, Vector.getElem_set, ← Fin.ext_iff, h]

@[simp] theorem isActive_setChannel (s : State) (i j : Input) (c : InputChannel) :
    isActive (setChannel s i c) j = if i = j then c.filtered else isActive s j := by
  simp only [isActive, channel_setChannel]; split <;> rfl

@[simp] theorem reader_setReader (s : State) (r q : Reader) (c : ReaderChannel) :
    reader (setReader s r c) q = if r = q then c else reader s q := by
  cases r <;> cases q <;> rfl

/-- A read starts at an IDLE reader with attempt 1 and leaves the failure count and a READING one alone (R24). -/
theorem reader_startRead (s : State) (r q : Reader) :
    reader (startRead s r) q =
      if r = q then { reader s q with attempt := some ((reader s q).attempt.getD 1) } else reader s q := by
  unfold startRead
  split <;> rename_i h <;> by_cases hq : r = q
  · subst hq; simp [h]
  · simp [hq]
  · subst hq; cases hr : reader s r; simp_all
  · simp [hq]

/-! ## The registry -/

@[simp] theorem row_setRow (s : State) (r m : Rack) (w : Option Row) :
    row (setRow s r w) m = if r = m then w else row s m := by
  simp only [row, setRow, Fin.getElem_fin, Vector.getElem_set, ← Fin.ext_iff]

/-- Only the rack's own row changes, and only where it is enrolled (R118). -/
@[simp] theorem row_setPlace (s : State) (r m : Rack) (p : Place) :
    row (setPlace s r p) m = if r = m then (row s m).map fun w => { w with place := p } else row s m := by
  unfold setPlace
  by_cases h : r = m
  · subst h; split <;> rename_i hr <;> simp [hr]
  · split <;> simp [h]

theorem setPlaceOf_onlyPlaced (s : State) (r : Option Rack) (p : Place) :
    OnlyPlaced s (setPlaceOf s r p) r p := by
  intro m
  cases r <;> simp [setPlaceOf]

/-- A place set as it stands already, or on a vacant row, changes nothing. -/
theorem setPlace_same (s : State) (r : Rack) (p : Place) (h : ∀ w, row s r = some w → w.place = p) :
    setPlace s r p = s := by
  unfold setPlace
  split
  · rename_i w hr
    have hw := h w hr
    have hset : s.registry.set r (some { w with place := p }) = s.registry := by
      rw [← hw, ← hr]; exact Vector.set_getElem_self ..
    simp only [setRow]
    rw [hset]
  · rfl

/-- The update from a wash record changes the row of the rack that it counts for (R120). -/
theorem row_updateCounted (s : State) (w : WashRecord) (m : Rack) :
    row (updateCounted s w) m = if countsFor w = some m then (row s m).map (washedRow w) else row s m := by
  unfold updateCounted
  split <;> rename_i hc
  · simp [hc]
  · rename_i n
    by_cases h : n = m
    · subst h; split <;> rename_i hr <;> simp [hc, hr]
    · split <;> simp [hc, h]

/-! ## Alerts -/

/-- The ALERT output shows whether some latched kind is not masked (R167). -/
theorem alertActive_iff (s : State) :
    alertActive s.sup.alerts s.sup.mask = true ↔ ∃ k : AlertKind, (alert s k).isSome ∧ s.sup.mask[k.index] = false := by
  simp only [alertActive, List.any_eq_true, Bool.and_eq_true, Bool.not_eq_true', alert]
  exact ⟨fun ⟨k, _, h⟩ => ⟨k, h⟩, fun ⟨k, h⟩ => ⟨k, alert_mem_all k, h⟩⟩

theorem refreshAlertOutput_right (s : State) : AlertOutputRight (refreshAlertOutput s) :=
  alertActive_iff s

@[simp] theorem alert_refreshAlertOutput (s : State) (k : AlertKind) :
    alert (refreshAlertOutput s) k = alert s k := rfl

/-- A raise latches its own kind and leaves the others as they are (R166). -/
@[simp] theorem alert_raiseMarked (s : State) (k j : AlertKind) (rack : Option Rack) (u : Bool) :
    alert (raiseMarked s k rack u) j =
      if k = j then some (latchedBy s.belt.odometer rack u (alert s k)) else alert s j := by
  have h := alert_index_injective k j
  simp only [raiseMarked, alert, refreshAlertOutput, Fin.getElem_fin, Vector.getElem_set, ← Fin.ext_iff, h]

@[simp] theorem alert_raise (s : State) (k j : AlertKind) (rack : Option Rack) :
    alert (raise s k rack) j =
      if k = j then some (latchedBy s.belt.odometer rack false (alert s k)) else alert s j := alert_raiseMarked ..

theorem raise_raised (s : State) (k : AlertKind) (rack : Option Rack) :
    Raised s (raise s k rack) k s.belt.odometer rack := by
  unfold Raised
  rw [alert_raise, if_pos rfl]
  cases alert s k <;> simp [latchedBy, saturatingAdd, Config.byteLimit]

theorem raise_alertOutputRight (s : State) (k : AlertKind) (rack : Option Rack) (u : Bool) :
    AlertOutputRight (raiseMarked s k rack u) := refreshAlertOutput_right _

/-- The kinds of a list are clear afterwards and the others as they were (R167). -/
theorem alert_clearAlerts (s : State) (kinds : List AlertKind) (j : AlertKind) :
    alert (clearAlerts s kinds) j = if j ∈ kinds then none else alert s j := by
  have key : ∀ (ks : List AlertKind) (v : Vector (Option Latched) 20),
      (ks.foldl (fun v k => v.set k.index none) v)[j.index] = if j ∈ ks then none else v[j.index] := by
    intro ks
    induction ks with
    | nil => intro v; simp
    | cons k ks ih =>
      intro v
      have h := alert_index_injective k j
      rw [List.foldl_cons, ih]
      simp only [List.mem_cons, Fin.getElem_fin, Vector.getElem_set, ← Fin.ext_iff, h, eq_comm (a := j)]
      by_cases hj : j ∈ ks <;> by_cases hk : k = j <;> simp [hj, hk]
  exact key kinds s.sup.alerts

theorem clearAlerts_alertOutputRight (s : State) (kinds : List AlertKind) :
    AlertOutputRight (clearAlerts s kinds) := refreshAlertOutput_right _

/-! ## The outbox -/

/-- A record joins the tail, and the next serial follows (R109). -/
theorem appendRecord_outbox (s : State) (w : WashRecord) :
    (appendRecord s w).outbox =
      { queue := s.outbox.queue ++ [w], nextSerial := serialAfter s.outbox.nextSerial } := by
  unfold appendRecord; dsimp only; split <;> rfl

/-- An append raises no kind but OUTBOX_HIGH (R113). -/
theorem alert_appendRecord (s : State) (w : WashRecord) (k : AlertKind) (h : k ≠ .outboxHigh) :
    alert (appendRecord s w) k = alert s k := by
  have h' : ¬AlertKind.outboxHigh = k := fun e => h e.symm
  unfold appendRecord; dsimp only; split
  · rw [alert_raise, if_neg h']; rfl
  · rfl

theorem fileRecord_outbox (s : State) (w : WashRecord) :
    (fileRecord s w).outbox =
      { queue := s.outbox.queue ++ [w], nextSerial := serialAfter s.outbox.nextSerial } := by
  simp [fileRecord, appendRecord_outbox]

theorem row_fileRecord (s : State) (w : WashRecord) (m : Rack) :
    row (fileRecord s w) m = if countsFor w = some m then (row s m).map (washedRow w) else row s m := by
  have h : ∀ r, row (appendRecord s w) r = row s r := fun r => by simp [row]
  simp only [fileRecord, row_updateCounted, h]

/-- The serials go on from a queue's end to the record that joins it (R109). -/
theorem serialsRun_append (q : List WashRecord) (next : Nat) (w : WashRecord) (h : SerialsRun q next)
    (hw : w.serial = next) : SerialsRun (q ++ [w]) (serialAfter next) := by
  induction q with
  | nil => simp [SerialsRun, hw]
  | cons v q ih =>
    cases q with
    | nil => simpa [SerialsRun, hw] using h
    | cons u rest => exact ⟨h.1, ih h.2⟩

/-- The serials still run when the oldest records have gone (R111). -/
theorem serialsRun_drop (q : List WashRecord) (next n : Nat) (h : SerialsRun q next) :
    SerialsRun (q.drop n) next := by
  induction q generalizing n with
  | nil => simp [SerialsRun]
  | cons w q ih =>
    cases n with
    | zero => exact h
    | succ n =>
      apply ih
      cases q with
      | nil => trivial
      | cons v rest => exact h.2

/-! ## Closing as MISSING -/

/-- With no overdue head nothing is closed (R53). -/
theorem closeOverdue_none (s : State) (h : ∀ r ∈ s.tunnel.list.head?, overdue s r = false) : closeOverdue s = s := by
  have key : s.tunnel.list.takeWhile (overdue s) = [] ∧ s.tunnel.list.dropWhile (overdue s) = s.tunnel.list := by
    cases hl : s.tunnel.list with
    | nil => simp
    | cons r rest =>
      have hr : overdue s r = false := h r (by simp [hl])
      simp [hr]
  unfold closeOverdue
  rw [key.1, key.2]
  rfl

/-- A fold of closings touches only what one closing touches. -/
theorem foldl_closeMissing_frame (l : List TunnelRecord) (s : State) :
    (l.foldl closeMissing s).belt = s.belt ∧
    (l.foldl closeMissing s).inputs = s.inputs ∧
    (l.foldl closeMissing s).readers = s.readers ∧
    (l.foldl closeMissing s).stage = s.stage ∧
    (l.foldl closeMissing s).tunnel = s.tunnel ∧
    (l.foldl closeMissing s).rinse = s.rinse ∧
    (l.foldl closeMissing s).pacing = s.pacing ∧
    (l.foldl closeMissing s).returns = s.returns ∧
    (l.foldl closeMissing s).tray = s.tray ∧
    (l.foldl closeMissing s).sup.mode = s.sup.mode ∧
    (l.foldl closeMissing s).sup.draining = s.sup.draining ∧
    (l.foldl closeMissing s).sup.runOn = s.sup.runOn ∧
    (l.foldl closeMissing s).sup.lineHeld = s.sup.lineHeld ∧
    (l.foldl closeMissing s).sup.mask = s.sup.mask ∧
    (l.foldl closeMissing s).sup.storeOp = s.sup.storeOp ∧
    (l.foldl closeMissing s).sup.lastSave = s.sup.lastSave ∧
    (l.foldl closeMissing s).link = s.link ∧
    (l.foldl closeMissing s).settings = s.settings ∧
    (l.foldl closeMissing s).store = s.store ∧
    (l.foldl closeMissing s).freeIndex = s.freeIndex ∧
    (l.foldl closeMissing s).pending = s.pending := by
  induction l generalizing s with
  | nil => simp
  | cons r l ih => simp [List.foldl_cons, ih (closeMissing s r)]

/-- The closings of overdue heads leave everything alone but the list, the outbox, the registry and the alerts. -/
@[simp] theorem closeOverdue_frame (s : State) :
    (closeOverdue s).belt = s.belt ∧
    (closeOverdue s).inputs = s.inputs ∧
    (closeOverdue s).readers = s.readers ∧
    (closeOverdue s).stage = s.stage ∧
    (closeOverdue s).tunnel = { s.tunnel with list := s.tunnel.list.dropWhile (overdue s) } ∧
    (closeOverdue s).rinse = s.rinse ∧
    (closeOverdue s).pacing = s.pacing ∧
    (closeOverdue s).returns = s.returns ∧
    (closeOverdue s).tray = s.tray ∧
    (closeOverdue s).sup.mode = s.sup.mode ∧
    (closeOverdue s).sup.draining = s.sup.draining ∧
    (closeOverdue s).sup.runOn = s.sup.runOn ∧
    (closeOverdue s).sup.lineHeld = s.sup.lineHeld ∧
    (closeOverdue s).sup.mask = s.sup.mask ∧
    (closeOverdue s).sup.storeOp = s.sup.storeOp ∧
    (closeOverdue s).sup.lastSave = s.sup.lastSave ∧
    (closeOverdue s).link = s.link ∧
    (closeOverdue s).settings = s.settings ∧
    (closeOverdue s).store = s.store ∧
    (closeOverdue s).freeIndex = s.freeIndex ∧
    (closeOverdue s).pending = s.pending := by
  simp [closeOverdue, foldl_closeMissing_frame]

/-! ## The belt outputs -/

/-- A run output that agrees with the mode and the hold set is left as it is (R94). -/
theorem recomputeBelt_same (s : State) (h : s.pacing.beltRun = beltShouldRun s) : recomputeBelt s = s := by
  simp [recomputeBelt, h]

/-- After the outputs are recomputed the belt runs exactly in RUN with the hold set empty (R94). -/
theorem recomputeBelt_beltRun (s : State) : (recomputeBelt s).pacing.beltRun = beltShouldRun s := by
  unfold recomputeBelt
  split
  · rename_i h; exact h.symm
  · split <;> rename_i h
    · simp [beltOn, h]
    · simp [beltOff, h]

/-! ## What an event settles -/

theorem reevaluate_nobodyWaits (s : State) (h : nobodyWaits s = true) : reevaluate s = s := by
  unfold reevaluate
  cases hs : s.stage <;> simp_all [nobodyWaits]

/-- Where nobody waits and nothing is left to settle, an event settles nothing. -/
theorem settle_settled (s : State) (h : Settled s) (hn : nobodyWaits s = true) : settle s = s := by
  have ho : runOnWhileOccupied s = s := by
    unfold runOnWhileOccupied
    rcases h.runOn with he | he
    · simp [he]
    · split
      · rfl
      · rw [← he]
  simp [settle, reevaluate_nobodyWaits s hn, ho, drainTest, h.drain, runOnTest, h.parked]

/-! ## Requests -/

/-- A request that reaches the pair while a reply is being sent is lost (R172). -/
theorem takeRequest_sending (s : State) (command reply : Text) (effect : State → State × Reply)
    (h : s.link.transmitter = .sending reply) : takeRequest s command effect = s := by
  simp [takeRequest, receiverOn, h]

/-- A request at a quiet link has its effect with the buffer idle, and its reply is begun (R172, R174). -/
theorem takeRequest_quiet (s : State) (command : Text) (effect : State → State × Reply) (h : linkQuiet s) :
    takeRequest s command effect =
      sendReply (effect { s with link := { s.link with buffer := .idle } }).1 command
        (effect { s with link := { s.link with buffer := .idle } }).2 := by
  have h' : s.link.transmitter = .quiet := h
  simp [takeRequest, receiverOn, h']

/-- A request that changes nothing is answered and nothing else happens (R174). -/
theorem takeRequest_answered (s : State) (command : Text) (effect : State → State × Reply) (r : Reply)
    (h : linkQuiet s)
    (he : effect { s with link := { s.link with buffer := .idle } }
      = ({ s with link := { s.link with buffer := .idle } }, r)) :
    takeRequest s command effect = answered s command r := by
  rw [takeRequest_quiet s command effect h, he]; rfl

end Sys2Proof.Laws
end

