-- ==== Sys2Proof/Laws/Events.lean ====
section
/-! SUPPORT. What the events and the loads leave alone: one lemma for each, in the form of Laws/Frames.lean. -/

namespace Sys2Proof.Laws

open Sys2Proof.Machine

@[simp] theorem deliverOutcome_frame (s : State) (r : Reader) (o : ReadOutcome) :
    (deliverOutcome s r o).belt.forwardAcc = s.belt.forwardAcc ∧
    (deliverOutcome s r o).belt.odometer = s.belt.odometer ∧
    (deliverOutcome s r o).belt.reverseAcc = s.belt.reverseAcc ∧
    (deliverOutcome s r o).belt.reverseCount = s.belt.reverseCount ∧
    (deliverOutcome s r o).inputs = s.inputs ∧
    (deliverOutcome s r o).rinse = s.rinse ∧
    (deliverOutcome s r o).pacing.exitCause = s.pacing.exitCause ∧
    (deliverOutcome s r o).pacing.doorCause = s.pacing.doorCause ∧
    (deliverOutcome s r o).pacing.pauseCause = s.pacing.pauseCause ∧
    (deliverOutcome s r o).pacing.speedDemand = s.pacing.speedDemand ∧
    (deliverOutcome s r o).returns.stations = s.returns.stations ∧
    (deliverOutcome s r o).tray.congestionTimer = s.tray.congestionTimer ∧
    (deliverOutcome s r o).tray.congested = s.tray.congested ∧
    (deliverOutcome s r o).tray.lineHeld = s.tray.lineHeld ∧
    (deliverOutcome s r o).sup.draining = s.sup.draining ∧
    (deliverOutcome s r o).sup.lineHeld = s.sup.lineHeld ∧
    (deliverOutcome s r o).sup.mask = s.sup.mask ∧
    (deliverOutcome s r o).sup.storeOp = s.sup.storeOp ∧
    (deliverOutcome s r o).sup.lastSave = s.sup.lastSave ∧
    (deliverOutcome s r o).link = s.link ∧
    (deliverOutcome s r o).settings = s.settings ∧
    (deliverOutcome s r o).store = s.store ∧
    (deliverOutcome s r o).freeIndex = s.freeIndex ∧
    (deliverOutcome s r o).pending = s.pending := by
  cases r <;> simp [deliverOutcome]

@[simp] theorem failAttempt_frame (s : State) (r : Reader) (a : Nat) :
    (failAttempt s r a).belt.forwardAcc = s.belt.forwardAcc ∧
    (failAttempt s r a).belt.odometer = s.belt.odometer ∧
    (failAttempt s r a).belt.reverseAcc = s.belt.reverseAcc ∧
    (failAttempt s r a).belt.reverseCount = s.belt.reverseCount ∧
    (failAttempt s r a).inputs = s.inputs ∧
    (failAttempt s r a).rinse = s.rinse ∧
    (failAttempt s r a).pacing.exitCause = s.pacing.exitCause ∧
    (failAttempt s r a).pacing.doorCause = s.pacing.doorCause ∧
    (failAttempt s r a).pacing.pauseCause = s.pacing.pauseCause ∧
    (failAttempt s r a).pacing.speedDemand = s.pacing.speedDemand ∧
    (failAttempt s r a).returns.stations = s.returns.stations ∧
    (failAttempt s r a).tray.congestionTimer = s.tray.congestionTimer ∧
    (failAttempt s r a).tray.congested = s.tray.congested ∧
    (failAttempt s r a).tray.lineHeld = s.tray.lineHeld ∧
    (failAttempt s r a).sup.mask = s.sup.mask ∧
    (failAttempt s r a).sup.storeOp = s.sup.storeOp ∧
    (failAttempt s r a).sup.lastSave = s.sup.lastSave ∧
    (failAttempt s r a).link = s.link ∧
    (failAttempt s r a).settings = s.settings ∧
    (failAttempt s r a).store = s.store ∧
    (failAttempt s r a).freeIndex = s.freeIndex ∧
    (failAttempt s r a).pending = s.pending := by
  unfold failAttempt; dsimp only; split <;> simp

@[simp] theorem approachEye_frame (s : State) (b : Bool) :
    (approachEye s b).belt = s.belt ∧
    (approachEye s b).inputs = s.inputs ∧
    (approachEye s b).tunnel = s.tunnel ∧
    (approachEye s b).rinse = s.rinse ∧
    (approachEye s b).pacing = s.pacing ∧
    (approachEye s b).outbox = s.outbox ∧
    (approachEye s b).returns.stations = s.returns.stations ∧
    (approachEye s b).returns.pointers = s.returns.pointers ∧
    (approachEye s b).returns.diverters = s.returns.diverters ∧
    (approachEye s b).returns.returnBelt = s.returns.returnBelt ∧
    (approachEye s b).tray = s.tray ∧
    (approachEye s b).sup = s.sup ∧
    (approachEye s b).link = s.link ∧
    (approachEye s b).settings = s.settings ∧
    (approachEye s b).store = s.store ∧
    (approachEye s b).freeIndex = s.freeIndex ∧
    (approachEye s b).pending = s.pending := by
  unfold approachEye; split <;> simp

@[simp] theorem exitEyeBlocked_frame (s : State) :
    (exitEyeBlocked s).belt = s.belt ∧
    (exitEyeBlocked s).inputs = s.inputs ∧
    (exitEyeBlocked s).readers = s.readers ∧
    (exitEyeBlocked s).stage = s.stage ∧
    (exitEyeBlocked s).rinse = s.rinse ∧
    (exitEyeBlocked s).pacing = s.pacing ∧
    (exitEyeBlocked s).returns = s.returns ∧
    (exitEyeBlocked s).tray = s.tray ∧
    (exitEyeBlocked s).sup.mode = s.sup.mode ∧
    (exitEyeBlocked s).sup.draining = s.sup.draining ∧
    (exitEyeBlocked s).sup.runOn = s.sup.runOn ∧
    (exitEyeBlocked s).sup.lineHeld = s.sup.lineHeld ∧
    (exitEyeBlocked s).sup.mask = s.sup.mask ∧
    (exitEyeBlocked s).sup.storeOp = s.sup.storeOp ∧
    (exitEyeBlocked s).sup.lastSave = s.sup.lastSave ∧
    (exitEyeBlocked s).link = s.link ∧
    (exitEyeBlocked s).settings = s.settings ∧
    (exitEyeBlocked s).store = s.store ∧
    (exitEyeBlocked s).freeIndex = s.freeIndex ∧
    (exitEyeBlocked s).pending = s.pending := by
  unfold exitEyeBlocked; split <;> simp [lampOff]

@[simp] theorem exitEye_frame (s : State) (b : Bool) :
    (exitEye s b).belt = s.belt ∧
    (exitEye s b).inputs = s.inputs ∧
    (exitEye s b).stage = s.stage ∧
    (exitEye s b).rinse = s.rinse ∧
    (exitEye s b).pacing = s.pacing ∧
    (exitEye s b).returns = s.returns ∧
    (exitEye s b).tray = s.tray ∧
    (exitEye s b).sup.mode = s.sup.mode ∧
    (exitEye s b).sup.draining = s.sup.draining ∧
    (exitEye s b).sup.runOn = s.sup.runOn ∧
    (exitEye s b).sup.lineHeld = s.sup.lineHeld ∧
    (exitEye s b).sup.mask = s.sup.mask ∧
    (exitEye s b).sup.storeOp = s.sup.storeOp ∧
    (exitEye s b).sup.lastSave = s.sup.lastSave ∧
    (exitEye s b).link = s.link ∧
    (exitEye s b).settings = s.settings ∧
    (exitEye s b).store = s.store ∧
    (exitEye s b).freeIndex = s.freeIndex ∧
    (exitEye s b).pending = s.pending := by
  unfold exitEye; split <;> simp [exitEyeClear]

@[simp] theorem returnGateEye_frame (s : State) (b : Bool) :
    (returnGateEye s b).belt.forwardAcc = s.belt.forwardAcc ∧
    (returnGateEye s b).belt.odometer = s.belt.odometer ∧
    (returnGateEye s b).belt.reverseAcc = s.belt.reverseAcc ∧
    (returnGateEye s b).belt.reverseCount = s.belt.reverseCount ∧
    (returnGateEye s b).inputs = s.inputs ∧
    (returnGateEye s b).rinse = s.rinse ∧
    (returnGateEye s b).pacing.exitCause = s.pacing.exitCause ∧
    (returnGateEye s b).pacing.doorCause = s.pacing.doorCause ∧
    (returnGateEye s b).pacing.pauseCause = s.pacing.pauseCause ∧
    (returnGateEye s b).pacing.speedDemand = s.pacing.speedDemand ∧
    (returnGateEye s b).returns.stations = s.returns.stations ∧
    (returnGateEye s b).tray.congestionTimer = s.tray.congestionTimer ∧
    (returnGateEye s b).tray.congested = s.tray.congested ∧
    (returnGateEye s b).tray.lineHeld = s.tray.lineHeld ∧
    (returnGateEye s b).sup.draining = s.sup.draining ∧
    (returnGateEye s b).sup.lineHeld = s.sup.lineHeld ∧
    (returnGateEye s b).sup.mask = s.sup.mask ∧
    (returnGateEye s b).sup.storeOp = s.sup.storeOp ∧
    (returnGateEye s b).sup.lastSave = s.sup.lastSave ∧
    (returnGateEye s b).link = s.link ∧
    (returnGateEye s b).settings = s.settings ∧
    (returnGateEye s b).store = s.store ∧
    (returnGateEye s b).freeIndex = s.freeIndex ∧
    (returnGateEye s b).pending = s.pending := by
  unfold returnGateEye; split <;> (try split) <;> simp

@[simp] theorem doorChange_frame (s : State) (d : Door) (b : Bool) :
    (doorChange s d b).belt.forwardAcc = s.belt.forwardAcc ∧
    (doorChange s d b).belt.odometer = s.belt.odometer ∧
    (doorChange s d b).belt.reverseAcc = s.belt.reverseAcc ∧
    (doorChange s d b).belt.reverseCount = s.belt.reverseCount ∧
    (doorChange s d b).inputs = s.inputs ∧
    (doorChange s d b).readers = s.readers ∧
    (doorChange s d b).stage = s.stage ∧
    (doorChange s d b).tunnel.slot = s.tunnel.slot ∧
    (doorChange s d b).tunnel.lamp = s.tunnel.lamp ∧
    (doorChange s d b).rinse = s.rinse ∧
    (doorChange s d b).pacing.exitCause = s.pacing.exitCause ∧
    (doorChange s d b).pacing.pauseCause = s.pacing.pauseCause ∧
    (doorChange s d b).pacing.speedDemand = s.pacing.speedDemand ∧
    (doorChange s d b).outbox = s.outbox ∧
    (doorChange s d b).registry = s.registry ∧
    (doorChange s d b).returns = s.returns ∧
    (doorChange s d b).tray.north = s.tray.north ∧
    (doorChange s d b).tray.south = s.tray.south ∧
    (doorChange s d b).tray.congestionTimer = s.tray.congestionTimer ∧
    (doorChange s d b).tray.congested = s.tray.congested ∧
    (doorChange s d b).sup.mode = s.sup.mode ∧
    (doorChange s d b).sup.draining = s.sup.draining ∧
    (doorChange s d b).sup.runOn = s.sup.runOn ∧
    (doorChange s d b).sup.alerts = s.sup.alerts ∧
    (doorChange s d b).sup.mask = s.sup.mask ∧
    (doorChange s d b).sup.alertOutput = s.sup.alertOutput ∧
    (doorChange s d b).sup.storeOp = s.sup.storeOp ∧
    (doorChange s d b).sup.lastSave = s.sup.lastSave ∧
    (doorChange s d b).link = s.link ∧
    (doorChange s d b).settings = s.settings ∧
    (doorChange s d b).store = s.store ∧
    (doorChange s d b).freeIndex = s.freeIndex ∧
    (doorChange s d b).pending = s.pending := by
  unfold doorChange; split <;> simp [flagRecords]

@[simp] theorem tableFullChange_frame (s : State) (b : Bool) :
    (tableFullChange s b).belt.forwardAcc = s.belt.forwardAcc ∧
    (tableFullChange s b).belt.odometer = s.belt.odometer ∧
    (tableFullChange s b).belt.reverseAcc = s.belt.reverseAcc ∧
    (tableFullChange s b).belt.reverseCount = s.belt.reverseCount ∧
    (tableFullChange s b).inputs = s.inputs ∧
    (tableFullChange s b).readers = s.readers ∧
    (tableFullChange s b).stage = s.stage ∧
    (tableFullChange s b).tunnel = s.tunnel ∧
    (tableFullChange s b).rinse = s.rinse ∧
    (tableFullChange s b).pacing.doorCause = s.pacing.doorCause ∧
    (tableFullChange s b).pacing.pauseCause = s.pacing.pauseCause ∧
    (tableFullChange s b).pacing.speedDemand = s.pacing.speedDemand ∧
    (tableFullChange s b).outbox = s.outbox ∧
    (tableFullChange s b).registry = s.registry ∧
    (tableFullChange s b).returns = s.returns ∧
    (tableFullChange s b).tray.north = s.tray.north ∧
    (tableFullChange s b).tray.south = s.tray.south ∧
    (tableFullChange s b).tray.congestionTimer = s.tray.congestionTimer ∧
    (tableFullChange s b).tray.congested = s.tray.congested ∧
    (tableFullChange s b).sup.mode = s.sup.mode ∧
    (tableFullChange s b).sup.draining = s.sup.draining ∧
    (tableFullChange s b).sup.runOn = s.sup.runOn ∧
    (tableFullChange s b).sup.alerts = s.sup.alerts ∧
    (tableFullChange s b).sup.mask = s.sup.mask ∧
    (tableFullChange s b).sup.alertOutput = s.sup.alertOutput ∧
    (tableFullChange s b).sup.storeOp = s.sup.storeOp ∧
    (tableFullChange s b).sup.lastSave = s.sup.lastSave ∧
    (tableFullChange s b).link = s.link ∧
    (tableFullChange s b).settings = s.settings ∧
    (tableFullChange s b).store = s.store ∧
    (tableFullChange s b).freeIndex = s.freeIndex ∧
    (tableFullChange s b).pending = s.pending := by
  simp [tableFullChange]

@[simp] theorem deliver_frame (s : State) (i : Input) (b : Bool) :
    (deliver s i b).belt.forwardAcc = s.belt.forwardAcc ∧
    (deliver s i b).belt.odometer = s.belt.odometer ∧
    (deliver s i b).belt.reverseAcc = s.belt.reverseAcc ∧
    (deliver s i b).belt.reverseCount = s.belt.reverseCount ∧
    (deliver s i b).inputs = s.inputs ∧
    (deliver s i b).rinse = s.rinse ∧
    (deliver s i b).pacing.pauseCause = s.pacing.pauseCause ∧
    (deliver s i b).pacing.speedDemand = s.pacing.speedDemand ∧
    (deliver s i b).returns.stations = s.returns.stations ∧
    (deliver s i b).tray.congestionTimer = s.tray.congestionTimer ∧
    (deliver s i b).tray.congested = s.tray.congested ∧
    (deliver s i b).sup.mask = s.sup.mask ∧
    (deliver s i b).sup.storeOp = s.sup.storeOp ∧
    (deliver s i b).sup.lastSave = s.sup.lastSave ∧
    (deliver s i b).link = s.link ∧
    (deliver s i b).settings = s.settings ∧
    (deliver s i b).store = s.store ∧
    (deliver s i b).freeIndex = s.freeIndex ∧
    (deliver s i b).pending = s.pending := by
  cases i <;> cases b <;> simp [deliver, recomputeReturnBelt]

@[simp] theorem travelEvent_frame (s : State) :
    (travelEvent s).belt.forwardAcc = s.belt.forwardAcc ∧
    (travelEvent s).inputs = s.inputs ∧
    (travelEvent s).tunnel.slot = s.tunnel.slot ∧
    (travelEvent s).tunnel.lamp = s.tunnel.lamp ∧
    (travelEvent s).rinse = s.rinse ∧
    (travelEvent s).pacing.exitCause = s.pacing.exitCause ∧
    (travelEvent s).pacing.doorCause = s.pacing.doorCause ∧
    (travelEvent s).pacing.pauseCause = s.pacing.pauseCause ∧
    (travelEvent s).pacing.speedDemand = s.pacing.speedDemand ∧
    (travelEvent s).returns.stations = s.returns.stations ∧
    (travelEvent s).returns.pointers = s.returns.pointers ∧
    (travelEvent s).tray.congestionTimer = s.tray.congestionTimer ∧
    (travelEvent s).tray.congested = s.tray.congested ∧
    (travelEvent s).tray.lineHeld = s.tray.lineHeld ∧
    (travelEvent s).sup.mask = s.sup.mask ∧
    (travelEvent s).sup.storeOp = s.sup.storeOp ∧
    (travelEvent s).sup.lastSave = s.sup.lastSave ∧
    (travelEvent s).link = s.link ∧
    (travelEvent s).settings = s.settings ∧
    (travelEvent s).store = s.store ∧
    (travelEvent s).freeIndex = s.freeIndex ∧
    (travelEvent s).pending = s.pending := by
  simp [travelEvent, advanceOdometer]

@[simp] theorem rinseHeadEvent_frame (s : State) (v : Option Nat) :
    (rinseHeadEvent s v).belt.forwardAcc = s.belt.forwardAcc ∧
    (rinseHeadEvent s v).belt.odometer = s.belt.odometer ∧
    (rinseHeadEvent s v).belt.reverseAcc = s.belt.reverseAcc ∧
    (rinseHeadEvent s v).belt.reverseCount = s.belt.reverseCount ∧
    (rinseHeadEvent s v).inputs = s.inputs ∧
    (rinseHeadEvent s v).readers = s.readers ∧
    (rinseHeadEvent s v).stage = s.stage ∧
    (rinseHeadEvent s v).tunnel = s.tunnel ∧
    (rinseHeadEvent s v).rinse.cycle = s.rinse.cycle ∧
    (rinseHeadEvent s v).pacing.exitCause = s.pacing.exitCause ∧
    (rinseHeadEvent s v).pacing.doorCause = s.pacing.doorCause ∧
    (rinseHeadEvent s v).pacing.pauseCause = s.pacing.pauseCause ∧
    (rinseHeadEvent s v).pacing.speedDemand = s.pacing.speedDemand ∧
    (rinseHeadEvent s v).outbox = s.outbox ∧
    (rinseHeadEvent s v).registry = s.registry ∧
    (rinseHeadEvent s v).returns = s.returns ∧
    (rinseHeadEvent s v).tray.north = s.tray.north ∧
    (rinseHeadEvent s v).tray.south = s.tray.south ∧
    (rinseHeadEvent s v).tray.congestionTimer = s.tray.congestionTimer ∧
    (rinseHeadEvent s v).tray.congested = s.tray.congested ∧
    (rinseHeadEvent s v).sup.mode = s.sup.mode ∧
    (rinseHeadEvent s v).sup.draining = s.sup.draining ∧
    (rinseHeadEvent s v).sup.runOn = s.sup.runOn ∧
    (rinseHeadEvent s v).sup.mask = s.sup.mask ∧
    (rinseHeadEvent s v).sup.storeOp = s.sup.storeOp ∧
    (rinseHeadEvent s v).sup.lastSave = s.sup.lastSave ∧
    (rinseHeadEvent s v).link = s.link ∧
    (rinseHeadEvent s v).settings = s.settings ∧
    (rinseHeadEvent s v).store = s.store ∧
    (rinseHeadEvent s v).freeIndex = s.freeIndex ∧
    (rinseHeadEvent s v).pending = s.pending := by
  unfold rinseHeadEvent; dsimp only; split <;> simp [raise, raiseMarked, refreshAlertOutput]

@[simp] theorem washHeadEvent_frame (s : State) (v : Option Nat) :
    (washHeadEvent s v).belt.forwardAcc = s.belt.forwardAcc ∧
    (washHeadEvent s v).belt.odometer = s.belt.odometer ∧
    (washHeadEvent s v).belt.reverseAcc = s.belt.reverseAcc ∧
    (washHeadEvent s v).belt.reverseCount = s.belt.reverseCount ∧
    (washHeadEvent s v).inputs = s.inputs ∧
    (washHeadEvent s v).readers = s.readers ∧
    (washHeadEvent s v).stage = s.stage ∧
    (washHeadEvent s v).tunnel = s.tunnel ∧
    (washHeadEvent s v).rinse.cycle = s.rinse.cycle ∧
    (washHeadEvent s v).pacing.exitCause = s.pacing.exitCause ∧
    (washHeadEvent s v).pacing.doorCause = s.pacing.doorCause ∧
    (washHeadEvent s v).pacing.pauseCause = s.pacing.pauseCause ∧
    (washHeadEvent s v).pacing.speedDemand = s.pacing.speedDemand ∧
    (washHeadEvent s v).outbox = s.outbox ∧
    (washHeadEvent s v).registry = s.registry ∧
    (washHeadEvent s v).returns = s.returns ∧
    (washHeadEvent s v).tray.north = s.tray.north ∧
    (washHeadEvent s v).tray.south = s.tray.south ∧
    (washHeadEvent s v).tray.congestionTimer = s.tray.congestionTimer ∧
    (washHeadEvent s v).tray.congested = s.tray.congested ∧
    (washHeadEvent s v).sup.mode = s.sup.mode ∧
    (washHeadEvent s v).sup.draining = s.sup.draining ∧
    (washHeadEvent s v).sup.runOn = s.sup.runOn ∧
    (washHeadEvent s v).sup.mask = s.sup.mask ∧
    (washHeadEvent s v).sup.storeOp = s.sup.storeOp ∧
    (washHeadEvent s v).sup.lastSave = s.sup.lastSave ∧
    (washHeadEvent s v).link = s.link ∧
    (washHeadEvent s v).settings = s.settings ∧
    (washHeadEvent s v).store = s.store ∧
    (washHeadEvent s v).freeIndex = s.freeIndex ∧
    (washHeadEvent s v).pending = s.pending := by
  unfold washHeadEvent; dsimp only; split <;> simp [raise, raiseMarked, refreshAlertOutput]

@[simp] theorem rinseAccrual_frame (s : State) (v : Option Nat) :
    (rinseAccrual s v).belt = s.belt ∧
    (rinseAccrual s v).inputs = s.inputs ∧
    (rinseAccrual s v).readers = s.readers ∧
    (rinseAccrual s v).stage = s.stage ∧
    (rinseAccrual s v).tunnel.slot = s.tunnel.slot ∧
    (rinseAccrual s v).tunnel.lamp = s.tunnel.lamp ∧
    (rinseAccrual s v).rinse = s.rinse ∧
    (rinseAccrual s v).pacing = s.pacing ∧
    (rinseAccrual s v).outbox = s.outbox ∧
    (rinseAccrual s v).registry = s.registry ∧
    (rinseAccrual s v).returns = s.returns ∧
    (rinseAccrual s v).tray = s.tray ∧
    (rinseAccrual s v).sup = s.sup ∧
    (rinseAccrual s v).link = s.link ∧
    (rinseAccrual s v).settings = s.settings ∧
    (rinseAccrual s v).store = s.store ∧
    (rinseAccrual s v).freeIndex = s.freeIndex ∧
    (rinseAccrual s v).pending = s.pending := by
  unfold rinseAccrual; split <;> simp [flagRecords]

@[simp] theorem washAccrual_frame (s : State) (v : Option Nat) :
    (washAccrual s v).belt = s.belt ∧
    (washAccrual s v).inputs = s.inputs ∧
    (washAccrual s v).readers = s.readers ∧
    (washAccrual s v).stage = s.stage ∧
    (washAccrual s v).tunnel.slot = s.tunnel.slot ∧
    (washAccrual s v).tunnel.lamp = s.tunnel.lamp ∧
    (washAccrual s v).rinse = s.rinse ∧
    (washAccrual s v).pacing = s.pacing ∧
    (washAccrual s v).outbox = s.outbox ∧
    (washAccrual s v).registry = s.registry ∧
    (washAccrual s v).returns = s.returns ∧
    (washAccrual s v).tray = s.tray ∧
    (washAccrual s v).sup = s.sup ∧
    (washAccrual s v).link = s.link ∧
    (washAccrual s v).settings = s.settings ∧
    (washAccrual s v).store = s.store ∧
    (washAccrual s v).freeIndex = s.freeIndex ∧
    (washAccrual s v).pending = s.pending := by
  unfold washAccrual; split <;> (try split) <;> simp

@[simp] theorem demandAtSample_frame (s : State) (v : Option Nat) :
    (demandAtSample s v).belt = s.belt ∧
    (demandAtSample s v).inputs = s.inputs ∧
    (demandAtSample s v).readers = s.readers ∧
    (demandAtSample s v).stage = s.stage ∧
    (demandAtSample s v).tunnel = s.tunnel ∧
    (demandAtSample s v).rinse = s.rinse ∧
    (demandAtSample s v).pacing.exitCause = s.pacing.exitCause ∧
    (demandAtSample s v).pacing.doorCause = s.pacing.doorCause ∧
    (demandAtSample s v).pacing.pauseCause = s.pacing.pauseCause ∧
    (demandAtSample s v).pacing.beltRun = s.pacing.beltRun ∧
    (demandAtSample s v).pacing.valveOpen = s.pacing.valveOpen ∧
    (demandAtSample s v).pacing.stallTimer = s.pacing.stallTimer ∧
    (demandAtSample s v).pacing.longestOverrun = s.pacing.longestOverrun ∧
    (demandAtSample s v).outbox = s.outbox ∧
    (demandAtSample s v).registry = s.registry ∧
    (demandAtSample s v).returns = s.returns ∧
    (demandAtSample s v).tray = s.tray ∧
    (demandAtSample s v).sup = s.sup ∧
    (demandAtSample s v).link = s.link ∧
    (demandAtSample s v).settings = s.settings ∧
    (demandAtSample s v).store = s.store ∧
    (demandAtSample s v).freeIndex = s.freeIndex ∧
    (demandAtSample s v).pending = s.pending := by
  unfold demandAtSample; split <;> (try split) <;> simp [setDemand]

@[simp] theorem lineAtRinseSample_frame (s : State) (v : Option Nat) (f : Bool) :
    (lineAtRinseSample s v f).belt.forwardAcc = s.belt.forwardAcc ∧
    (lineAtRinseSample s v f).belt.odometer = s.belt.odometer ∧
    (lineAtRinseSample s v f).belt.reverseAcc = s.belt.reverseAcc ∧
    (lineAtRinseSample s v f).belt.reverseCount = s.belt.reverseCount ∧
    (lineAtRinseSample s v f).inputs = s.inputs ∧
    (lineAtRinseSample s v f).readers = s.readers ∧
    (lineAtRinseSample s v f).stage = s.stage ∧
    (lineAtRinseSample s v f).tunnel = s.tunnel ∧
    (lineAtRinseSample s v f).rinse = s.rinse ∧
    (lineAtRinseSample s v f).pacing.exitCause = s.pacing.exitCause ∧
    (lineAtRinseSample s v f).pacing.doorCause = s.pacing.doorCause ∧
    (lineAtRinseSample s v f).pacing.pauseCause = s.pacing.pauseCause ∧
    (lineAtRinseSample s v f).pacing.speedDemand = s.pacing.speedDemand ∧
    (lineAtRinseSample s v f).outbox = s.outbox ∧
    (lineAtRinseSample s v f).registry = s.registry ∧
    (lineAtRinseSample s v f).returns.stations = s.returns.stations ∧
    (lineAtRinseSample s v f).returns.enRoute = s.returns.enRoute ∧
    (lineAtRinseSample s v f).returns.pointers = s.returns.pointers ∧
    (lineAtRinseSample s v f).tray.congestionTimer = s.tray.congestionTimer ∧
    (lineAtRinseSample s v f).tray.congested = s.tray.congested ∧
    (lineAtRinseSample s v f).tray.lineHeld = s.tray.lineHeld ∧
    (lineAtRinseSample s v f).sup.draining = s.sup.draining ∧
    (lineAtRinseSample s v f).sup.lineHeld = s.sup.lineHeld ∧
    (lineAtRinseSample s v f).sup.alerts = s.sup.alerts ∧
    (lineAtRinseSample s v f).sup.mask = s.sup.mask ∧
    (lineAtRinseSample s v f).sup.alertOutput = s.sup.alertOutput ∧
    (lineAtRinseSample s v f).sup.storeOp = s.sup.storeOp ∧
    (lineAtRinseSample s v f).sup.lastSave = s.sup.lastSave ∧
    (lineAtRinseSample s v f).link = s.link ∧
    (lineAtRinseSample s v f).settings = s.settings ∧
    (lineAtRinseSample s v f).store = s.store ∧
    (lineAtRinseSample s v f).freeIndex = s.freeIndex ∧
    (lineAtRinseSample s v f).pending = s.pending := by
  unfold lineAtRinseSample; split <;> (try split) <;> simp

@[simp] theorem lineAtWashSample_frame (s : State) (v : Option Nat) (f : Bool) :
    (lineAtWashSample s v f).belt.forwardAcc = s.belt.forwardAcc ∧
    (lineAtWashSample s v f).belt.odometer = s.belt.odometer ∧
    (lineAtWashSample s v f).belt.reverseAcc = s.belt.reverseAcc ∧
    (lineAtWashSample s v f).belt.reverseCount = s.belt.reverseCount ∧
    (lineAtWashSample s v f).inputs = s.inputs ∧
    (lineAtWashSample s v f).readers = s.readers ∧
    (lineAtWashSample s v f).stage = s.stage ∧
    (lineAtWashSample s v f).tunnel = s.tunnel ∧
    (lineAtWashSample s v f).rinse = s.rinse ∧
    (lineAtWashSample s v f).pacing.exitCause = s.pacing.exitCause ∧
    (lineAtWashSample s v f).pacing.doorCause = s.pacing.doorCause ∧
    (lineAtWashSample s v f).pacing.pauseCause = s.pacing.pauseCause ∧
    (lineAtWashSample s v f).pacing.speedDemand = s.pacing.speedDemand ∧
    (lineAtWashSample s v f).outbox = s.outbox ∧
    (lineAtWashSample s v f).registry = s.registry ∧
    (lineAtWashSample s v f).returns.stations = s.returns.stations ∧
    (lineAtWashSample s v f).returns.enRoute = s.returns.enRoute ∧
    (lineAtWashSample s v f).returns.pointers = s.returns.pointers ∧
    (lineAtWashSample s v f).tray.congestionTimer = s.tray.congestionTimer ∧
    (lineAtWashSample s v f).tray.congested = s.tray.congested ∧
    (lineAtWashSample s v f).tray.lineHeld = s.tray.lineHeld ∧
    (lineAtWashSample s v f).sup.draining = s.sup.draining ∧
    (lineAtWashSample s v f).sup.lineHeld = s.sup.lineHeld ∧
    (lineAtWashSample s v f).sup.alerts = s.sup.alerts ∧
    (lineAtWashSample s v f).sup.mask = s.sup.mask ∧
    (lineAtWashSample s v f).sup.alertOutput = s.sup.alertOutput ∧
    (lineAtWashSample s v f).sup.storeOp = s.sup.storeOp ∧
    (lineAtWashSample s v f).sup.lastSave = s.sup.lastSave ∧
    (lineAtWashSample s v f).link = s.link ∧
    (lineAtWashSample s v f).settings = s.settings ∧
    (lineAtWashSample s v f).store = s.store ∧
    (lineAtWashSample s v f).freeIndex = s.freeIndex ∧
    (lineAtWashSample s v f).pending = s.pending := by
  unfold lineAtWashSample; split <;> (try split) <;> simp

@[simp] theorem rinseSample_frame (s : State) (v : Option Nat) :
    (rinseSample s v).belt.forwardAcc = s.belt.forwardAcc ∧
    (rinseSample s v).belt.odometer = s.belt.odometer ∧
    (rinseSample s v).belt.reverseAcc = s.belt.reverseAcc ∧
    (rinseSample s v).belt.reverseCount = s.belt.reverseCount ∧
    (rinseSample s v).inputs = s.inputs ∧
    (rinseSample s v).readers = s.readers ∧
    (rinseSample s v).stage = s.stage ∧
    (rinseSample s v).tunnel.slot = s.tunnel.slot ∧
    (rinseSample s v).tunnel.lamp = s.tunnel.lamp ∧
    (rinseSample s v).rinse.cycle = s.rinse.cycle ∧
    (rinseSample s v).pacing.exitCause = s.pacing.exitCause ∧
    (rinseSample s v).pacing.doorCause = s.pacing.doorCause ∧
    (rinseSample s v).pacing.pauseCause = s.pacing.pauseCause ∧
    (rinseSample s v).outbox = s.outbox ∧
    (rinseSample s v).registry = s.registry ∧
    (rinseSample s v).returns.stations = s.returns.stations ∧
    (rinseSample s v).returns.enRoute = s.returns.enRoute ∧
    (rinseSample s v).returns.pointers = s.returns.pointers ∧
    (rinseSample s v).tray.congestionTimer = s.tray.congestionTimer ∧
    (rinseSample s v).tray.congested = s.tray.congested ∧
    (rinseSample s v).sup.draining = s.sup.draining ∧
    (rinseSample s v).sup.mask = s.sup.mask ∧
    (rinseSample s v).sup.storeOp = s.sup.storeOp ∧
    (rinseSample s v).sup.lastSave = s.sup.lastSave ∧
    (rinseSample s v).link = s.link ∧
    (rinseSample s v).settings = s.settings ∧
    (rinseSample s v).store = s.store ∧
    (rinseSample s v).freeIndex = s.freeIndex ∧
    (rinseSample s v).pending = s.pending := by
  unfold rinseSample; dsimp only; split <;> simp

@[simp] theorem washSample_frame (s : State) (v : Option Nat) :
    (washSample s v).belt.forwardAcc = s.belt.forwardAcc ∧
    (washSample s v).belt.odometer = s.belt.odometer ∧
    (washSample s v).belt.reverseAcc = s.belt.reverseAcc ∧
    (washSample s v).belt.reverseCount = s.belt.reverseCount ∧
    (washSample s v).inputs = s.inputs ∧
    (washSample s v).readers = s.readers ∧
    (washSample s v).stage = s.stage ∧
    (washSample s v).tunnel.slot = s.tunnel.slot ∧
    (washSample s v).tunnel.lamp = s.tunnel.lamp ∧
    (washSample s v).rinse.cycle = s.rinse.cycle ∧
    (washSample s v).pacing.exitCause = s.pacing.exitCause ∧
    (washSample s v).pacing.doorCause = s.pacing.doorCause ∧
    (washSample s v).pacing.pauseCause = s.pacing.pauseCause ∧
    (washSample s v).pacing.speedDemand = s.pacing.speedDemand ∧
    (washSample s v).outbox = s.outbox ∧
    (washSample s v).registry = s.registry ∧
    (washSample s v).returns.stations = s.returns.stations ∧
    (washSample s v).returns.enRoute = s.returns.enRoute ∧
    (washSample s v).returns.pointers = s.returns.pointers ∧
    (washSample s v).tray.congestionTimer = s.tray.congestionTimer ∧
    (washSample s v).tray.congested = s.tray.congested ∧
    (washSample s v).sup.draining = s.sup.draining ∧
    (washSample s v).sup.mask = s.sup.mask ∧
    (washSample s v).sup.storeOp = s.sup.storeOp ∧
    (washSample s v).sup.lastSave = s.sup.lastSave ∧
    (washSample s v).link = s.link ∧
    (washSample s v).settings = s.settings ∧
    (washSample s v).store = s.store ∧
    (washSample s v).freeIndex = s.freeIndex ∧
    (washSample s v).pending = s.pending := by
  simp [washSample]

@[simp] theorem setPhase_frame (s : State) (p : PollPhase) :
    (setPhase s p).belt = s.belt ∧
    (setPhase s p).inputs = s.inputs ∧
    (setPhase s p).readers = s.readers ∧
    (setPhase s p).stage = s.stage ∧
    (setPhase s p).tunnel = s.tunnel ∧
    (setPhase s p).rinse.rinse = s.rinse.rinse ∧
    (setPhase s p).rinse.wash = s.rinse.wash ∧
    (setPhase s p).pacing = s.pacing ∧
    (setPhase s p).outbox = s.outbox ∧
    (setPhase s p).registry = s.registry ∧
    (setPhase s p).returns = s.returns ∧
    (setPhase s p).tray = s.tray ∧
    (setPhase s p).sup = s.sup ∧
    (setPhase s p).link = s.link ∧
    (setPhase s p).settings = s.settings ∧
    (setPhase s p).store = s.store ∧
    (setPhase s p).freeIndex = s.freeIndex ∧
    (setPhase s p).pending = s.pending := by
  unfold setPhase; split <;> simp

@[simp] theorem endPoll_frame (s : State) (v : Option Nat) :
    (endPoll s v).belt.forwardAcc = s.belt.forwardAcc ∧
    (endPoll s v).belt.odometer = s.belt.odometer ∧
    (endPoll s v).belt.reverseAcc = s.belt.reverseAcc ∧
    (endPoll s v).belt.reverseCount = s.belt.reverseCount ∧
    (endPoll s v).inputs = s.inputs ∧
    (endPoll s v).readers = s.readers ∧
    (endPoll s v).tunnel.slot = s.tunnel.slot ∧
    (endPoll s v).tunnel.lamp = s.tunnel.lamp ∧
    (endPoll s v).pacing.exitCause = s.pacing.exitCause ∧
    (endPoll s v).pacing.doorCause = s.pacing.doorCause ∧
    (endPoll s v).pacing.pauseCause = s.pacing.pauseCause ∧
    (endPoll s v).outbox = s.outbox ∧
    (endPoll s v).returns.stations = s.returns.stations ∧
    (endPoll s v).returns.pointers = s.returns.pointers ∧
    (endPoll s v).tray.congestionTimer = s.tray.congestionTimer ∧
    (endPoll s v).tray.congested = s.tray.congested ∧
    (endPoll s v).sup.mask = s.sup.mask ∧
    (endPoll s v).sup.storeOp = s.sup.storeOp ∧
    (endPoll s v).sup.lastSave = s.sup.lastSave ∧
    (endPoll s v).link = s.link ∧
    (endPoll s v).settings = s.settings ∧
    (endPoll s v).store = s.store ∧
    (endPoll s v).freeIndex = s.freeIndex ∧
    (endPoll s v).pending = s.pending := by
  unfold endPoll; split <;> simp

@[simp] theorem requalify_frame (o n : Vector Bool 20) (s : State) (i : Input) :
    (requalify o n s i).belt = s.belt ∧
    (requalify o n s i).readers = s.readers ∧
    (requalify o n s i).stage = s.stage ∧
    (requalify o n s i).tunnel = s.tunnel ∧
    (requalify o n s i).rinse = s.rinse ∧
    (requalify o n s i).pacing = s.pacing ∧
    (requalify o n s i).outbox = s.outbox ∧
    (requalify o n s i).registry = s.registry ∧
    (requalify o n s i).returns = s.returns ∧
    (requalify o n s i).tray = s.tray ∧
    (requalify o n s i).sup = s.sup ∧
    (requalify o n s i).link = s.link ∧
    (requalify o n s i).settings = s.settings ∧
    (requalify o n s i).store = s.store ∧
    (requalify o n s i).freeIndex = s.freeIndex ∧
    (requalify o n s i).pending = s.pending := by
  unfold requalify; split <;> simp

/-- Judging every input afresh touches nothing but the inputs (R19). -/
theorem foldl_requalify_frame (o n : Vector Bool 20) (l : List Input) (s : State) :
    (l.foldl (requalify o n) s).belt = s.belt ∧
    (l.foldl (requalify o n) s).readers = s.readers ∧
    (l.foldl (requalify o n) s).stage = s.stage ∧
    (l.foldl (requalify o n) s).tunnel = s.tunnel ∧
    (l.foldl (requalify o n) s).rinse = s.rinse ∧
    (l.foldl (requalify o n) s).pacing = s.pacing ∧
    (l.foldl (requalify o n) s).outbox = s.outbox ∧
    (l.foldl (requalify o n) s).registry = s.registry ∧
    (l.foldl (requalify o n) s).returns = s.returns ∧
    (l.foldl (requalify o n) s).tray = s.tray ∧
    (l.foldl (requalify o n) s).sup = s.sup ∧
    (l.foldl (requalify o n) s).link = s.link ∧
    (l.foldl (requalify o n) s).settings = s.settings ∧
    (l.foldl (requalify o n) s).store = s.store ∧
    (l.foldl (requalify o n) s).freeIndex = s.freeIndex ∧
    (l.foldl (requalify o n) s).pending = s.pending := by
  induction l generalizing s with
  | nil => simp
  | cons a l ih => simp [List.foldl_cons, ih (requalify o n s a)]

/-- Placing the racks of en-route entries touches nothing but the registry (R130, R146). -/
theorem foldl_setPlaceOf_frame (p : Place) (l : List EnRoute) (s : State) :
    (l.foldl (fun t e => setPlaceOf t e.rack p) s).belt = s.belt ∧
    (l.foldl (fun t e => setPlaceOf t e.rack p) s).inputs = s.inputs ∧
    (l.foldl (fun t e => setPlaceOf t e.rack p) s).readers = s.readers ∧
    (l.foldl (fun t e => setPlaceOf t e.rack p) s).stage = s.stage ∧
    (l.foldl (fun t e => setPlaceOf t e.rack p) s).tunnel = s.tunnel ∧
    (l.foldl (fun t e => setPlaceOf t e.rack p) s).rinse = s.rinse ∧
    (l.foldl (fun t e => setPlaceOf t e.rack p) s).pacing = s.pacing ∧
    (l.foldl (fun t e => setPlaceOf t e.rack p) s).outbox = s.outbox ∧
    (l.foldl (fun t e => setPlaceOf t e.rack p) s).returns = s.returns ∧
    (l.foldl (fun t e => setPlaceOf t e.rack p) s).tray = s.tray ∧
    (l.foldl (fun t e => setPlaceOf t e.rack p) s).sup = s.sup ∧
    (l.foldl (fun t e => setPlaceOf t e.rack p) s).link = s.link ∧
    (l.foldl (fun t e => setPlaceOf t e.rack p) s).settings = s.settings ∧
    (l.foldl (fun t e => setPlaceOf t e.rack p) s).store = s.store ∧
    (l.foldl (fun t e => setPlaceOf t e.rack p) s).freeIndex = s.freeIndex ∧
    (l.foldl (fun t e => setPlaceOf t e.rack p) s).pending = s.pending := by
  induction l generalizing s with
  | nil => simp
  | cons a l ih => simp [List.foldl_cons, ih (setPlaceOf s a.rack p)]

/-- Closing every tunnel record at XR touches what one closing touches (R67). -/
theorem foldl_closeResetRecord_frame (l : List TunnelRecord) (s : State) :
    (l.foldl closeResetRecord s).belt = s.belt ∧
    (l.foldl closeResetRecord s).inputs = s.inputs ∧
    (l.foldl closeResetRecord s).readers = s.readers ∧
    (l.foldl closeResetRecord s).stage = s.stage ∧
    (l.foldl closeResetRecord s).tunnel = s.tunnel ∧
    (l.foldl closeResetRecord s).rinse = s.rinse ∧
    (l.foldl closeResetRecord s).pacing = s.pacing ∧
    (l.foldl closeResetRecord s).returns = s.returns ∧
    (l.foldl closeResetRecord s).tray = s.tray ∧
    (l.foldl closeResetRecord s).sup.mode = s.sup.mode ∧
    (l.foldl closeResetRecord s).sup.draining = s.sup.draining ∧
    (l.foldl closeResetRecord s).sup.runOn = s.sup.runOn ∧
    (l.foldl closeResetRecord s).sup.lineHeld = s.sup.lineHeld ∧
    (l.foldl closeResetRecord s).sup.mask = s.sup.mask ∧
    (l.foldl closeResetRecord s).sup.storeOp = s.sup.storeOp ∧
    (l.foldl closeResetRecord s).sup.lastSave = s.sup.lastSave ∧
    (l.foldl closeResetRecord s).link = s.link ∧
    (l.foldl closeResetRecord s).settings = s.settings ∧
    (l.foldl closeResetRecord s).store = s.store ∧
    (l.foldl closeResetRecord s).freeIndex = s.freeIndex ∧
    (l.foldl closeResetRecord s).pending = s.pending := by
  induction l generalizing s with
  | nil => simp
  | cons a l ih => simp [List.foldl_cons, ih (closeResetRecord s a)]

/-- Losing one en-route entry after another touches what losing one touches (R143). -/
theorem foldl_loseRack_frame (l : List EnRoute) (s : State) :
    (l.foldl loseRack s).belt = s.belt ∧
    (l.foldl loseRack s).inputs = s.inputs ∧
    (l.foldl loseRack s).readers = s.readers ∧
    (l.foldl loseRack s).stage = s.stage ∧
    (l.foldl loseRack s).tunnel = s.tunnel ∧
    (l.foldl loseRack s).rinse = s.rinse ∧
    (l.foldl loseRack s).pacing = s.pacing ∧
    (l.foldl loseRack s).outbox = s.outbox ∧
    (l.foldl loseRack s).returns = s.returns ∧
    (l.foldl loseRack s).tray = s.tray ∧
    (l.foldl loseRack s).sup.mode = s.sup.mode ∧
    (l.foldl loseRack s).sup.draining = s.sup.draining ∧
    (l.foldl loseRack s).sup.runOn = s.sup.runOn ∧
    (l.foldl loseRack s).sup.lineHeld = s.sup.lineHeld ∧
    (l.foldl loseRack s).sup.mask = s.sup.mask ∧
    (l.foldl loseRack s).sup.storeOp = s.sup.storeOp ∧
    (l.foldl loseRack s).sup.lastSave = s.sup.lastSave ∧
    (l.foldl loseRack s).link = s.link ∧
    (l.foldl loseRack s).settings = s.settings ∧
    (l.foldl loseRack s).store = s.store ∧
    (l.foldl loseRack s).freeIndex = s.freeIndex ∧
    (l.foldl loseRack s).pending = s.pending := by
  induction l generalizing s with
  | nil => simp
  | cons a l ih => simp [List.foldl_cons, ih (loseRack s a)]

@[simp] theorem clearAccumulators_frame (s : State) :
    (clearAccumulators s).belt.odometer = s.belt.odometer ∧
    (clearAccumulators s).belt.reverseCount = s.belt.reverseCount ∧
    (clearAccumulators s).belt.timer = s.belt.timer ∧
    (clearAccumulators s).inputs = s.inputs ∧
    (clearAccumulators s).readers = s.readers ∧
    (clearAccumulators s).stage = s.stage ∧
    (clearAccumulators s).tunnel = s.tunnel ∧
    (clearAccumulators s).rinse = s.rinse ∧
    (clearAccumulators s).pacing = s.pacing ∧
    (clearAccumulators s).outbox = s.outbox ∧
    (clearAccumulators s).registry = s.registry ∧
    (clearAccumulators s).returns = s.returns ∧
    (clearAccumulators s).tray = s.tray ∧
    (clearAccumulators s).sup = s.sup ∧
    (clearAccumulators s).link = s.link ∧
    (clearAccumulators s).settings = s.settings ∧
    (clearAccumulators s).store = s.store ∧
    (clearAccumulators s).freeIndex = s.freeIndex ∧
    (clearAccumulators s).pending = s.pending := by
  simp [clearAccumulators]

@[simp] theorem adoptSettings_frame (s : State) (c : Settings) (e : Bool) :
    (adoptSettings s c e).belt.odometer = s.belt.odometer ∧
    (adoptSettings s c e).belt.reverseCount = s.belt.reverseCount ∧
    (adoptSettings s c e).belt.timer = s.belt.timer ∧
    (adoptSettings s c e).readers = s.readers ∧
    (adoptSettings s c e).stage = s.stage ∧
    (adoptSettings s c e).tunnel = s.tunnel ∧
    (adoptSettings s c e).rinse = s.rinse ∧
    (adoptSettings s c e).pacing.exitCause = s.pacing.exitCause ∧
    (adoptSettings s c e).pacing.doorCause = s.pacing.doorCause ∧
    (adoptSettings s c e).pacing.pauseCause = s.pacing.pauseCause ∧
    (adoptSettings s c e).pacing.beltRun = s.pacing.beltRun ∧
    (adoptSettings s c e).pacing.valveOpen = s.pacing.valveOpen ∧
    (adoptSettings s c e).pacing.stallTimer = s.pacing.stallTimer ∧
    (adoptSettings s c e).pacing.longestOverrun = s.pacing.longestOverrun ∧
    (adoptSettings s c e).outbox = s.outbox ∧
    (adoptSettings s c e).registry = s.registry ∧
    (adoptSettings s c e).returns = s.returns ∧
    (adoptSettings s c e).tray.lineHeld = s.tray.lineHeld ∧
    (adoptSettings s c e).sup = s.sup ∧
    (adoptSettings s c e).link = s.link ∧
    (adoptSettings s c e).store = s.store ∧
    (adoptSettings s c e).freeIndex = s.freeIndex ∧
    (adoptSettings s c e).pending = s.pending := by
  unfold adoptSettings; dsimp only; split <;>
    simp [setDemand, limitHoldCounts, setCongestion, foldl_requalify_frame]

@[simp] theorem raiseIfBad_frame (s : State) (i : Option StoreImage) :
    (raiseIfBad s i).belt = s.belt ∧
    (raiseIfBad s i).inputs = s.inputs ∧
    (raiseIfBad s i).readers = s.readers ∧
    (raiseIfBad s i).stage = s.stage ∧
    (raiseIfBad s i).tunnel = s.tunnel ∧
    (raiseIfBad s i).rinse = s.rinse ∧
    (raiseIfBad s i).pacing = s.pacing ∧
    (raiseIfBad s i).outbox = s.outbox ∧
    (raiseIfBad s i).registry = s.registry ∧
    (raiseIfBad s i).returns = s.returns ∧
    (raiseIfBad s i).tray = s.tray ∧
    (raiseIfBad s i).sup.mode = s.sup.mode ∧
    (raiseIfBad s i).sup.draining = s.sup.draining ∧
    (raiseIfBad s i).sup.runOn = s.sup.runOn ∧
    (raiseIfBad s i).sup.lineHeld = s.sup.lineHeld ∧
    (raiseIfBad s i).sup.mask = s.sup.mask ∧
    (raiseIfBad s i).sup.storeOp = s.sup.storeOp ∧
    (raiseIfBad s i).sup.lastSave = s.sup.lastSave ∧
    (raiseIfBad s i).link = s.link ∧
    (raiseIfBad s i).settings = s.settings ∧
    (raiseIfBad s i).store = s.store ∧
    (raiseIfBad s i).freeIndex = s.freeIndex ∧
    (raiseIfBad s i).pending = s.pending := by
  unfold raiseIfBad; split <;> simp [raise, raiseMarked, refreshAlertOutput]

@[simp] theorem loadTables_frame (s : State) (i : StoreImage) :
    (loadTables s i).belt = s.belt ∧
    (loadTables s i).inputs = s.inputs ∧
    (loadTables s i).readers = s.readers ∧
    (loadTables s i).stage = s.stage ∧
    (loadTables s i).tunnel = s.tunnel ∧
    (loadTables s i).rinse = s.rinse ∧
    (loadTables s i).pacing = s.pacing ∧
    (loadTables s i).outbox = s.outbox ∧
    (loadTables s i).returns.enRoute = s.returns.enRoute ∧
    (loadTables s i).returns.pointers = s.returns.pointers ∧
    (loadTables s i).returns.diverters = s.returns.diverters ∧
    (loadTables s i).returns.returnBelt = s.returns.returnBelt ∧
    (loadTables s i).tray = s.tray ∧
    (loadTables s i).sup.mode = s.sup.mode ∧
    (loadTables s i).sup.draining = s.sup.draining ∧
    (loadTables s i).sup.runOn = s.sup.runOn ∧
    (loadTables s i).sup.lineHeld = s.sup.lineHeld ∧
    (loadTables s i).sup.storeOp = s.sup.storeOp ∧
    (loadTables s i).sup.lastSave = s.sup.lastSave ∧
    (loadTables s i).link = s.link ∧
    (loadTables s i).settings = s.settings ∧
    (loadTables s i).store = s.store ∧
    (loadTables s i).freeIndex = s.freeIndex ∧
    (loadTables s i).pending = s.pending := by
  simp [loadTables, setMask, refreshAlertOutput, loadRegistry]

@[simp] theorem placeEarlyReads_frame (s : State) :
    (placeEarlyReads s).belt = s.belt ∧
    (placeEarlyReads s).inputs = s.inputs ∧
    (placeEarlyReads s).readers = s.readers ∧
    (placeEarlyReads s).stage = s.stage ∧
    (placeEarlyReads s).tunnel = s.tunnel ∧
    (placeEarlyReads s).rinse = s.rinse ∧
    (placeEarlyReads s).pacing = s.pacing ∧
    (placeEarlyReads s).outbox = s.outbox ∧
    (placeEarlyReads s).returns = s.returns ∧
    (placeEarlyReads s).tray = s.tray ∧
    (placeEarlyReads s).sup = s.sup ∧
    (placeEarlyReads s).link = s.link ∧
    (placeEarlyReads s).settings = s.settings ∧
    (placeEarlyReads s).store = s.store ∧
    (placeEarlyReads s).freeIndex = s.freeIndex ∧
    (placeEarlyReads s).pending = s.pending := by
  simp [placeEarlyReads, foldl_setPlaceOf_frame]

@[simp] theorem handOver_frame (s : State) (k : LoadKind) (i : Option StoreImage) :
    (handOver s k i).belt.odometer = s.belt.odometer ∧
    (handOver s k i).belt.reverseCount = s.belt.reverseCount ∧
    (handOver s k i).belt.timer = s.belt.timer ∧
    (handOver s k i).readers = s.readers ∧
    (handOver s k i).stage = s.stage ∧
    (handOver s k i).tunnel = s.tunnel ∧
    (handOver s k i).rinse = s.rinse ∧
    (handOver s k i).pacing.exitCause = s.pacing.exitCause ∧
    (handOver s k i).pacing.doorCause = s.pacing.doorCause ∧
    (handOver s k i).pacing.pauseCause = s.pacing.pauseCause ∧
    (handOver s k i).pacing.beltRun = s.pacing.beltRun ∧
    (handOver s k i).pacing.valveOpen = s.pacing.valveOpen ∧
    (handOver s k i).pacing.stallTimer = s.pacing.stallTimer ∧
    (handOver s k i).pacing.longestOverrun = s.pacing.longestOverrun ∧
    (handOver s k i).outbox = s.outbox ∧
    (handOver s k i).returns.enRoute = s.returns.enRoute ∧
    (handOver s k i).returns.pointers = s.returns.pointers ∧
    (handOver s k i).returns.diverters = s.returns.diverters ∧
    (handOver s k i).returns.returnBelt = s.returns.returnBelt ∧
    (handOver s k i).tray.lineHeld = s.tray.lineHeld ∧
    (handOver s k i).sup.mode = s.sup.mode ∧
    (handOver s k i).sup.draining = s.sup.draining ∧
    (handOver s k i).sup.runOn = s.sup.runOn ∧
    (handOver s k i).sup.lineHeld = s.sup.lineHeld ∧
    (handOver s k i).sup.storeOp = s.sup.storeOp ∧
    (handOver s k i).sup.lastSave = s.sup.lastSave ∧
    (handOver s k i).link = s.link ∧
    (handOver s k i).store = s.store ∧
    (handOver s k i).freeIndex = s.freeIndex ∧
    (handOver s k i).pending = s.pending := by
  unfold handOver; cases k <;> simp [setDemand]

@[simp] theorem handOverAtRest_frame (s : State) (i : Option StoreImage) :
    (handOverAtRest s i).belt.odometer = s.belt.odometer ∧
    (handOverAtRest s i).belt.reverseCount = s.belt.reverseCount ∧
    (handOverAtRest s i).belt.timer = s.belt.timer ∧
    (handOverAtRest s i).readers = s.readers ∧
    (handOverAtRest s i).stage = s.stage ∧
    (handOverAtRest s i).tunnel = s.tunnel ∧
    (handOverAtRest s i).rinse = s.rinse ∧
    (handOverAtRest s i).pacing.exitCause = s.pacing.exitCause ∧
    (handOverAtRest s i).pacing.doorCause = s.pacing.doorCause ∧
    (handOverAtRest s i).pacing.pauseCause = s.pacing.pauseCause ∧
    (handOverAtRest s i).pacing.beltRun = s.pacing.beltRun ∧
    (handOverAtRest s i).pacing.valveOpen = s.pacing.valveOpen ∧
    (handOverAtRest s i).pacing.stallTimer = s.pacing.stallTimer ∧
    (handOverAtRest s i).pacing.longestOverrun = s.pacing.longestOverrun ∧
    (handOverAtRest s i).outbox = s.outbox ∧
    (handOverAtRest s i).returns.enRoute = s.returns.enRoute ∧
    (handOverAtRest s i).returns.pointers = s.returns.pointers ∧
    (handOverAtRest s i).returns.diverters = s.returns.diverters ∧
    (handOverAtRest s i).returns.returnBelt = s.returns.returnBelt ∧
    (handOverAtRest s i).tray.lineHeld = s.tray.lineHeld ∧
    (handOverAtRest s i).sup.mode = s.sup.mode ∧
    (handOverAtRest s i).sup.draining = s.sup.draining ∧
    (handOverAtRest s i).sup.runOn = s.sup.runOn ∧
    (handOverAtRest s i).sup.lineHeld = s.sup.lineHeld ∧
    (handOverAtRest s i).sup.storeOp = s.sup.storeOp ∧
    (handOverAtRest s i).sup.lastSave = s.sup.lastSave ∧
    (handOverAtRest s i).link = s.link ∧
    (handOverAtRest s i).store = s.store ∧
    (handOverAtRest s i).freeIndex = s.freeIndex ∧
    (handOverAtRest s i).pending = s.pending := by
  simp [handOverAtRest]

@[simp] theorem beginPolling_frame (s : State) :
    (beginPolling s).belt = s.belt ∧
    (beginPolling s).inputs = s.inputs ∧
    (beginPolling s).readers = s.readers ∧
    (beginPolling s).stage = s.stage ∧
    (beginPolling s).tunnel = s.tunnel ∧
    (beginPolling s).rinse.rinse = s.rinse.rinse ∧
    (beginPolling s).rinse.wash = s.rinse.wash ∧
    (beginPolling s).pacing = s.pacing ∧
    (beginPolling s).outbox = s.outbox ∧
    (beginPolling s).registry = s.registry ∧
    (beginPolling s).returns = s.returns ∧
    (beginPolling s).tray = s.tray ∧
    (beginPolling s).sup = s.sup ∧
    (beginPolling s).link = s.link ∧
    (beginPolling s).settings = s.settings ∧
    (beginPolling s).store = s.store ∧
    (beginPolling s).freeIndex = s.freeIndex ∧
    (beginPolling s).pending = s.pending := by
  unfold beginPolling; split <;> simp

@[simp] theorem modeAtLoadCompletion_frame (s : State) :
    (modeAtLoadCompletion s).belt.forwardAcc = s.belt.forwardAcc ∧
    (modeAtLoadCompletion s).belt.odometer = s.belt.odometer ∧
    (modeAtLoadCompletion s).belt.reverseAcc = s.belt.reverseAcc ∧
    (modeAtLoadCompletion s).belt.reverseCount = s.belt.reverseCount ∧
    (modeAtLoadCompletion s).inputs = s.inputs ∧
    (modeAtLoadCompletion s).readers = s.readers ∧
    (modeAtLoadCompletion s).stage = s.stage ∧
    (modeAtLoadCompletion s).tunnel.slot = s.tunnel.slot ∧
    (modeAtLoadCompletion s).tunnel.lamp = s.tunnel.lamp ∧
    (modeAtLoadCompletion s).rinse = s.rinse ∧
    (modeAtLoadCompletion s).pacing.exitCause = s.pacing.exitCause ∧
    (modeAtLoadCompletion s).pacing.doorCause = s.pacing.doorCause ∧
    (modeAtLoadCompletion s).pacing.pauseCause = s.pacing.pauseCause ∧
    (modeAtLoadCompletion s).pacing.speedDemand = s.pacing.speedDemand ∧
    (modeAtLoadCompletion s).outbox = s.outbox ∧
    (modeAtLoadCompletion s).registry = s.registry ∧
    (modeAtLoadCompletion s).returns.stations = s.returns.stations ∧
    (modeAtLoadCompletion s).returns.enRoute = s.returns.enRoute ∧
    (modeAtLoadCompletion s).returns.pointers = s.returns.pointers ∧
    (modeAtLoadCompletion s).tray.congestionTimer = s.tray.congestionTimer ∧
    (modeAtLoadCompletion s).tray.congested = s.tray.congested ∧
    (modeAtLoadCompletion s).tray.lineHeld = s.tray.lineHeld ∧
    (modeAtLoadCompletion s).sup.draining = s.sup.draining ∧
    (modeAtLoadCompletion s).sup.lineHeld = s.sup.lineHeld ∧
    (modeAtLoadCompletion s).sup.mask = s.sup.mask ∧
    (modeAtLoadCompletion s).sup.storeOp = s.sup.storeOp ∧
    (modeAtLoadCompletion s).sup.lastSave = s.sup.lastSave ∧
    (modeAtLoadCompletion s).link = s.link ∧
    (modeAtLoadCompletion s).settings = s.settings ∧
    (modeAtLoadCompletion s).store = s.store ∧
    (modeAtLoadCompletion s).freeIndex = s.freeIndex ∧
    (modeAtLoadCompletion s).pending = s.pending := by
  unfold modeAtLoadCompletion; split <;> (try split) <;> simp

@[simp] theorem completeLoad_frame (s : State) (k : LoadKind) (i : Option StoreImage) :
    (completeLoad s k i).belt.odometer = s.belt.odometer ∧
    (completeLoad s k i).belt.reverseCount = s.belt.reverseCount ∧
    (completeLoad s k i).readers = s.readers ∧
    (completeLoad s k i).tunnel.slot = s.tunnel.slot ∧
    (completeLoad s k i).tunnel.lamp = s.tunnel.lamp ∧
    (completeLoad s k i).rinse.rinse = s.rinse.rinse ∧
    (completeLoad s k i).rinse.wash = s.rinse.wash ∧
    (completeLoad s k i).pacing.exitCause = s.pacing.exitCause ∧
    (completeLoad s k i).pacing.doorCause = s.pacing.doorCause ∧
    (completeLoad s k i).pacing.pauseCause = s.pacing.pauseCause ∧
    (completeLoad s k i).outbox = s.outbox ∧
    (completeLoad s k i).returns.pointers = s.returns.pointers ∧
    (completeLoad s k i).sup.lastSave = s.sup.lastSave ∧
    (completeLoad s k i).sup.lineHeld = s.sup.lineHeld ∧
    (completeLoad s k i).link = s.link ∧
    (completeLoad s k i).store = s.store ∧
    (completeLoad s k i).freeIndex = s.freeIndex ∧
    (completeLoad s k i).pending = s.pending := by
  simp [completeLoad, endStoreOp]

@[simp] theorem deadlinesTenth_frame (s : State) :
    (deadlinesTenth s).belt = s.belt ∧
    (deadlinesTenth s).inputs = s.inputs ∧
    (deadlinesTenth s).readers = s.readers ∧
    (deadlinesTenth s).stage = s.stage ∧
    (deadlinesTenth s).tunnel = s.tunnel ∧
    (deadlinesTenth s).rinse = s.rinse ∧
    (deadlinesTenth s).pacing = s.pacing ∧
    (deadlinesTenth s).outbox = s.outbox ∧
    (deadlinesTenth s).returns.stations = s.returns.stations ∧
    (deadlinesTenth s).returns.pointers = s.returns.pointers ∧
    (deadlinesTenth s).returns.diverters = s.returns.diverters ∧
    (deadlinesTenth s).returns.returnBelt = s.returns.returnBelt ∧
    (deadlinesTenth s).tray = s.tray ∧
    (deadlinesTenth s).sup.mode = s.sup.mode ∧
    (deadlinesTenth s).sup.draining = s.sup.draining ∧
    (deadlinesTenth s).sup.runOn = s.sup.runOn ∧
    (deadlinesTenth s).sup.lineHeld = s.sup.lineHeld ∧
    (deadlinesTenth s).sup.mask = s.sup.mask ∧
    (deadlinesTenth s).sup.storeOp = s.sup.storeOp ∧
    (deadlinesTenth s).sup.lastSave = s.sup.lastSave ∧
    (deadlinesTenth s).link = s.link ∧
    (deadlinesTenth s).settings = s.settings ∧
    (deadlinesTenth s).store = s.store ∧
    (deadlinesTenth s).freeIndex = s.freeIndex ∧
    (deadlinesTenth s).pending = s.pending := by
  unfold deadlinesTenth; split <;> simp [foldl_loseRack_frame]

@[simp] theorem stallAlert_frame (s : State) :
    (stallAlert s).belt = s.belt ∧
    (stallAlert s).inputs = s.inputs ∧
    (stallAlert s).readers = s.readers ∧
    (stallAlert s).stage = s.stage ∧
    (stallAlert s).tunnel.slot = s.tunnel.slot ∧
    (stallAlert s).tunnel.lamp = s.tunnel.lamp ∧
    (stallAlert s).rinse = s.rinse ∧
    (stallAlert s).pacing = s.pacing ∧
    (stallAlert s).outbox = s.outbox ∧
    (stallAlert s).registry = s.registry ∧
    (stallAlert s).returns = s.returns ∧
    (stallAlert s).tray = s.tray ∧
    (stallAlert s).sup.mode = s.sup.mode ∧
    (stallAlert s).sup.draining = s.sup.draining ∧
    (stallAlert s).sup.runOn = s.sup.runOn ∧
    (stallAlert s).sup.lineHeld = s.sup.lineHeld ∧
    (stallAlert s).sup.mask = s.sup.mask ∧
    (stallAlert s).sup.storeOp = s.sup.storeOp ∧
    (stallAlert s).sup.lastSave = s.sup.lastSave ∧
    (stallAlert s).link = s.link ∧
    (stallAlert s).settings = s.settings ∧
    (stallAlert s).store = s.store ∧
    (stallAlert s).freeIndex = s.freeIndex ∧
    (stallAlert s).pending = s.pending := by
  simp [stallAlert, flagRecords, raise, raiseMarked, refreshAlertOutput]

@[simp] theorem encoderExpiry_frame (s : State) :
    (encoderExpiry s).belt.forwardAcc = s.belt.forwardAcc ∧
    (encoderExpiry s).belt.odometer = s.belt.odometer ∧
    (encoderExpiry s).belt.reverseAcc = s.belt.reverseAcc ∧
    (encoderExpiry s).belt.reverseCount = s.belt.reverseCount ∧
    (encoderExpiry s).inputs = s.inputs ∧
    (encoderExpiry s).readers = s.readers ∧
    (encoderExpiry s).stage = s.stage ∧
    (encoderExpiry s).tunnel.slot = s.tunnel.slot ∧
    (encoderExpiry s).tunnel.lamp = s.tunnel.lamp ∧
    (encoderExpiry s).rinse = s.rinse ∧
    (encoderExpiry s).pacing.exitCause = s.pacing.exitCause ∧
    (encoderExpiry s).pacing.doorCause = s.pacing.doorCause ∧
    (encoderExpiry s).pacing.pauseCause = s.pacing.pauseCause ∧
    (encoderExpiry s).pacing.speedDemand = s.pacing.speedDemand ∧
    (encoderExpiry s).outbox = s.outbox ∧
    (encoderExpiry s).registry = s.registry ∧
    (encoderExpiry s).returns.stations = s.returns.stations ∧
    (encoderExpiry s).returns.enRoute = s.returns.enRoute ∧
    (encoderExpiry s).returns.pointers = s.returns.pointers ∧
    (encoderExpiry s).tray.congestionTimer = s.tray.congestionTimer ∧
    (encoderExpiry s).tray.congested = s.tray.congested ∧
    (encoderExpiry s).tray.lineHeld = s.tray.lineHeld ∧
    (encoderExpiry s).sup.draining = s.sup.draining ∧
    (encoderExpiry s).sup.lineHeld = s.sup.lineHeld ∧
    (encoderExpiry s).sup.mask = s.sup.mask ∧
    (encoderExpiry s).sup.storeOp = s.sup.storeOp ∧
    (encoderExpiry s).sup.lastSave = s.sup.lastSave ∧
    (encoderExpiry s).link = s.link ∧
    (encoderExpiry s).settings = s.settings ∧
    (encoderExpiry s).store = s.store ∧
    (encoderExpiry s).freeIndex = s.freeIndex ∧
    (encoderExpiry s).pending = s.pending := by
  simp [encoderExpiry, raise, raiseMarked, refreshAlertOutput]

end Sys2Proof.Laws
end

