-- ==== Sys2Proof/Laws/Line.lean ====
section
/-! SUPPORT. What a change of mode, a halt and the admission decision do, said once for the statements that rest on
them. -/

namespace Sys2Proof.Laws

open Sys2Proof.Machine

/-! ## A change of mode -/

/-- A change of mode sets the mode, and the run-on count to 0 where it is to RUN (R157, R160). -/
theorem changeMode_sup (s : State) (m : LineMode) :
    (changeMode s m).sup = { s.sup with mode := m, runOn := if m = .run then 0 else s.sup.runOn } := by
  unfold changeMode
  dsimp only
  split <;> simp [divertersOff, recomputeReturnBelt, traysAtModeChange]

/-- After a change of mode the belt runs exactly in RUN with the hold set empty (R94). -/
theorem changeMode_beltRun (s : State) (m : LineMode) :
    (changeMode s m).pacing.beltRun = (m == .run && holdSetEmpty s) := by
  have h := recomputeBelt_beltRun { s with sup :=
    { s.sup with mode := m, runOn := if m = .run then 0 else s.sup.runOn } }
  unfold changeMode
  dsimp only
  split
  · simpa [divertersOff, recomputeReturnBelt, traysAtModeChange, beltShouldRun, holdSetEmpty] using h
  · simpa [recomputeReturnBelt, traysAtModeChange, beltShouldRun, holdSetEmpty] using h

/-- After a change of mode the return belt runs by the new mode and RETURN END FULL (R145), and a change to HALT
puts every diverter OFF (R141). -/
theorem changeMode_returns (s : State) (m : LineMode) :
    (changeMode s m).returns =
      { s.returns with
        returnBelt := !stopsTrays m && !isActive s .rf
        diverters := if m.isHalt then Vector.replicate 4 .off else s.returns.diverters } := by
  unfold changeMode
  dsimp only
  split <;>
    simp [divertersOff, recomputeReturnBelt, returnBeltShouldRun, traysAtModeChange, isActive, channel]

/-- The tray belts after a change of mode (R153). -/
theorem changeMode_trays (s : State) (m : LineMode) :
    (changeMode s m).tray =
      { s.tray with
        north := trayAtModeChange s.sup.mode m (isActive s .fn) s.tray.north
        south := trayAtModeChange s.sup.mode m (isActive s .fs) s.tray.south } := by
  unfold changeMode
  dsimp only
  split <;>
    simp [divertersOff, recomputeReturnBelt, traysAtModeChange, isActive, channel]

/-! ## A halt -/

/-- A HALT request leaves the line in HALT with its cause, and every tunnel record HALTED (R163). -/
theorem requestHalt_mode (s : State) (cause : HaltCause) :
    (requestHalt s cause).sup.mode = .halt cause
      ∧ (requestHalt s cause).tunnel = { s.tunnel with list := s.tunnel.list.map haltedRecord } := by
  have ht : (requestHalt s cause).tunnel = { s.tunnel with list := s.tunnel.list.map haltedRecord } := by
    have hl : (requestHalt s cause).tunnel.list = s.tunnel.list.map haltedRecord := by
      unfold requestHalt
      dsimp only
      split <;> split <;>
        simp [flagRecords, raise, raiseMarked, refreshAlertOutput, haltedRecord]
    rw [← hl]
    have hf := requestHalt_frame s cause
    cases hq : (requestHalt s cause).tunnel
    simp_all
  refine ⟨?_, ht⟩
  unfold requestHalt
  dsimp only
  split <;> split <;> simp [changeMode_sup]

/-! ## The admission decision -/

/-- The decision admits the rack, or leaves it waiting with the first reason that applies, ENTRY_REFUSED raised
with RETIRED and UNENROLLED (R33, R34). -/
theorem decideAdmission_cases (s : State) (o : ReadOutcome) :
    (waitReason s o = none ∧ decideAdmission s o = admitRack (autoEnrol s o) o)
    ∨ ∃ r, waitReason s o = some r
      ∧ decideAdmission s o =
        (if r = .retired ∨ r = .unenrolled then
          raise (setStage (autoEnrol s o) (.waiting r o)) .entryRefused o.rack?
        else setStage (autoEnrol s o) (.waiting r o)) := by
  unfold decideAdmission
  cases h : waitReason s o with
  | none => exact .inl ⟨rfl, rfl⟩
  | some r => exact .inr ⟨r, rfl, rfl⟩

/-- An admission leaves the stage ADMITTING with its pending admission, and the line in the mode the wake gives
with the run-on count 0 (R36, R160). -/
theorem admit_stage (s : State) (o : ReadOutcome) :
    (admitRack s o).stage = .admitting (pendingOf s o) 0 none
      ∧ (admitRack s o).sup.runOn = 0
      ∧ (admitRack s o).sup.mode = if s.sup.mode = .parked then .run else s.sup.mode := by
  unfold admitRack wake
  dsimp only
  refine ⟨?_, ?_, ?_⟩
  · split <;> simp [setStage]
  · split <;> simp [changeMode_sup]
  · split <;> rename_i h <;> simp_all [changeMode_sup, setStage]

/-- The ENTRY_REFUSED reasons are permanent, so a decision that leaves a rack waiting to be decided again raised
nothing (R34, R35). -/
theorem decideAdmission_waits (s : State) (o : ReadOutcome) (r : WaitReason) (h : waitReason s o = some r)
    (hp : r.permanent = false) : decideAdmission s o = setStage (autoEnrol s o) (.waiting r o) := by
  have hr : ¬(r = .retired ∨ r = .unenrolled) := by
    rintro (rfl | rfl) <;> simp [WaitReason.permanent] at hp
  simp [decideAdmission, h, hr]

end Sys2Proof.Laws
end

