-- ==== Sys2Proof/Laws/Texts.lean ====
section
/-! SUPPORT. Reading back what the card writes: rack numbers, classes, names and tags. -/

namespace Sys2Proof.Laws

open Sys2Proof.Machine

/-- The value of a digit that the card writes. -/
@[simp] theorem digitValue_digitChar (n : Nat) : digitValue? (digitChar n) = some (n % 10) := by
  have h : ∀ d : Fin 10, digitValue? (Char.ofNat (48 + d.val)) = some d.val := by decide
  exact h ⟨n % 10, Nat.mod_lt _ (by decide)⟩

/-- A digit is neither a sign nor a space. -/
theorem digitChar_ne (n : Nat) : digitChar n ≠ '-' ∧ digitChar n ≠ ' ' ∧ digitChar n ≠ '=' := by
  have h : ∀ d : Fin 10, Char.ofNat (48 + d.val) ≠ '-' ∧ Char.ofNat (48 + d.val) ≠ ' ' ∧ Char.ofNat (48 + d.val) ≠ '=' := by
    decide
  exact h ⟨n % 10, Nat.mod_lt _ (by decide)⟩

/-- A text that does not begin with a sign is a number of its digits alone (R175). -/
theorem numericField_unsigned (c : Char) (f : Text) (h : c ≠ '-') :
    numericField? (c :: f) = (digitField? (c :: f)).map fun n => (n : Int) := by
  unfold numericField?
  split
  · rename_i heq; exact absurd (List.cons.inj heq).1 h
  · rfl

/-- The number that a rack number's three digits are. -/
theorem rackOfNumber_val (n : Rack) : rackOfNumber? (n.val + 1) = some n := by
  have := n.isLt
  simp [rackOfNumber?]

/-- A rack number as the card writes it is read back (R175). -/
@[simp] theorem rackField_rackText (n : Rack) : rackField? (rackText n) = some n := by
  have hn := n.isLt
  have hd : digitField? (rackText n) = some (n.val + 1) := by
    simp [digitField?, rackText, digitsValue?]
    omega
  have hf : numericField? (rackText n) = some ((n.val + 1 : Nat) : Int) := by
    have h := numericField_unsigned (digitChar ((n.val + 1) / 100))
      [digitChar ((n.val + 1) / 10), digitChar (n.val + 1)] (digitChar_ne _).1
    rw [show rackText n = digitChar ((n.val + 1) / 100) :: [digitChar ((n.val + 1) / 10), digitChar (n.val + 1)]
      from rfl, h]
    rw [show (digitChar ((n.val + 1) / 100) :: [digitChar ((n.val + 1) / 10), digitChar (n.val + 1)])
      = rackText n from rfl, hd]
    rfl
  have hr : rangedField? 1 240 (rackText n) = some (n.val + 1) := by
    simp only [rangedField?, hf]
    rw [if_pos (by omega)]
    rfl
  simp only [rackField?, hr, rackOfNumber_val]

@[simp] theorem classField_classText (c : RackClass) : classField? (classText c) = some c := by
  cases c <;> decide

@[simp] theorem alertNamed_alertText (k : AlertKind) : alertNamed? (alertText k) = some k := by
  cases k <;> decide

/-- Every parameter's name is found again (R176, R177). -/
@[simp] theorem paramNamed_paramNameText (n : ParamName) : paramNamed? (paramNameText n) = some n := by
  cases n with
  | num p => cases p <;> decide
  | pol => decide
  | autoClass => decide

/-- A list of fields that the card wrote from values is read back as those values. -/
theorem allFields_map {α : Type} (read : Text → Option α) (write : α → Text) (h : ∀ a, read (write a) = some a)
    (l : List α) : allFields? read (l.map write) = some l := by
  induction l with
  | nil => rfl
  | cons a l ih => simp [allFields?, h, ih]

/-- The four characters of a rack's tag are a valid answer that names it (R23). -/
@[simp] theorem validAnswer_tagText (n : Rack) : validAnswer? (tagText n) = some n := by
  have hn := n.isLt
  have hs : 100 * ((n.val + 1) / 100 % 10) + 10 * ((n.val + 1) / 10 % 10) + (n.val + 1) % 10 = n.val + 1 := by omega
  have hh : (n.val + 1) / 100 % 10 = (n.val + 1) / 100 := by omega
  have hc : (3 * ((n.val + 1) / 100) + 7 * ((n.val + 1) / 10 % 10) + 9 * ((n.val + 1) % 10)) % 10 % 10
      = checkDigit ((n.val + 1) / 100 % 10) ((n.val + 1) / 10 % 10) ((n.val + 1) % 10) := by
    rw [hh]; simp [checkDigit]
  have ht : (n.val + 1) / 10 % 10 % 10 = (n.val + 1) / 10 % 10 := by omega
  have hu : (n.val + 1) % 10 % 10 = (n.val + 1) % 10 := by omega
  simp only [validAnswer?, tagText, digitValue_digitChar, ht, hu, hc, if_true, hs, rackOfNumber_val]

end Sys2Proof.Laws
end

