-- ==== Sys2Proof/Tests/Slice0.lean ====
section
/-! SUPPORT. The model's own tests: the well-formedness checks, one or two steps of each command with values from
the manual's text and worked examples, and, for every statement of Certificates/Slice0/Obligations.lean with
hypotheses, a state and operands that meet them. -/

open Sys2Proof Sys2Proof.Machine

namespace Sys2Proof.Tests

/-! ## Small states -/

/-- What a command's next state is asked. -/
def after (c : Instr) (s : State) (p : State → Bool) : Bool :=
  match exec c s with
  | .next t => p t
  | .fault _ => false
  | .refused _ => false

/-- A parked line: water hot, nothing held, nothing on the line. -/
def parked : State :=
  { State.reset with
    rinse :=
      { cycle := .started 1000 .quiet
        rinse := { latest := .temp 820, consecutive := 0, total := 0, cause := none }
        wash := { latest := .temp 650, consecutive := 0, total := 0, cause := none } }
    returns := { State.reset.returns with returnBelt := true }
    tray :=
      { State.reset.tray with
        north := { state := .running, holdCount := 0, leakCount := 0 }
        south := { state := .running, holdCount := 0, leakCount := 0 }
        lineHeld := false }
    sup := { State.reset.sup with mode := .parked, lineHeld := false, storeOp := .none } }

/-- A running line: the belt on, nothing on the line. -/
def running : State :=
  { parked with
    belt := { parked.belt with timer := .running 0 }
    pacing := { parked.pacing with beltRun := true, setPoint := 1800, valveOpen := true }
    sup := { parked.sup with mode := .run } }

def withMode (s : State) (m : LineMode) : State := { s with sup := { s.sup with mode := m } }
def withStore (s : State) (o : StoreOp) : State := { s with sup := { s.sup with storeOp := o } }
def withList (s : State) (l : List TunnelRecord) : State := { s with tunnel := { s.tunnel with list := l } }
def withEntries (s : State) (l : List EnRoute) : State := { s with returns := { s.returns with enRoute := l } }
def atOdometer (s : State) (n : Nat) : State := { s with belt := { s.belt with odometer := BitVec.ofNat 24 n } }
def withAcc (s : State) (n : Nat) : State := { s with belt := { s.belt with forwardAcc := n } }
def withReverse (s : State) (acc count : Nat) : State :=
  { s with belt := { s.belt with reverseAcc := acc, reverseCount := count } }
def withRunOn (s : State) (n : Nat) : State := { s with sup := { s.sup with runOn := n } }
def withPar (s : State) (p : Param) (n : Nat) : State := { s with settings := paramSet s.settings p n }
def withRow (s : State) (n : Rack) (c : RackClass) (p : Place) : State := setRow s n (some (newRow c p))
def withRetired (s : State) (n : Rack) (p : Place) : State :=
  setRow s n (some { newRow .plate p with retired := true })
def reading (s : State) (r : Reader) (a : Nat) : State := setReader s r { attempt := some a, failures := 0 }
def polling (s : State) (p : PollPhase) : State := { s with rinse := { s.rinse with cycle := .started 1000 p } }
def sending (s : State) : State := { s with link := { s.link with transmitter := .sending ['$'] } }

/-- An input whose filter time is about to be reached, its filtered state as given. -/
def turning (s : State) (i : Input) (filtered : Bool) : State :=
  setChannel s i { level := false, filtered := filtered, qualifying := true }

/-- An input whose filtered state is active. -/
def active (s : State) (i : Input) : State := setChannel s i { level := true, filtered := true, qualifying := false }

/-- A tunnel record of a plate rack, or of an anonymous one. -/
def rackRecord (n : Option Rack) (entry : Nat) : TunnelRecord :=
  { rack := n, cls := n.map fun _ => .plate, entry := BitVec.ofNat 24 entry, dose := 8000, washTime := 800,
    minRinse := some 817, flags := {} }

/-- An exit check record. -/
def checkRecord (n : Option Rack) (entry : Nat) : ExitRecord :=
  { rack := n, cls := n.map fun _ => .plate, entry := some (BitVec.ofNat 24 entry), exit := 6400, dose := 8000,
    washTime := 800, minRinse := some 817, flags := {}, readNumber := none }

def withCheck (s : State) (k : ExitRecord) : State := { s with tunnel := { s.tunnel with slot := some k } }
def admitting (s : State) (n : Option Rack) (lapse : Nat) : State :=
  { s with stage := .admitting { rack := n, cls := n.map fun _ => .plate, rewash := false } lapse none }

/-- The temperature answer of a head: its letter, the tenths of a degree, and the byte that makes the sum 0. -/
def answer (letter : Byte) (t : Nat) : List Byte :=
  let hi := BitVec.ofNat 8 (t / 256)
  let lo := BitVec.ofNat 8 t
  [letter, hi, lo, 0 - (letter + hi + lo)]

/-! ## What makes a state settled and its outputs right -/

theorem settled_of (s : State)
    (h : (nobodyWaits s && (lineEmpty s || s.sup.runOn == 0) && !drainEnds s && !runOnEnds s) = true) :
    Settled s := by
  simp only [Bool.and_eq_true, Bool.or_eq_true, Bool.not_eq_true', beq_iff_eq] at h
  obtain ⟨⟨⟨hw, hr⟩, hd⟩, hp⟩ := h
  refine ⟨fun r o hs hr' => ?_, hr, hd, hp⟩
  rw [nobodyWaits, hs] at hw
  simp [hr'] at hw

theorem outputs_of_on (s : State) (n : Nat) (ht : s.belt.timer = .running n)
    (h : (s.pacing.beltRun && (s.sup.mode == .run) && holdSetEmpty s && s.pacing.valveOpen
      && s.pacing.setPoint == s.pacing.speedDemand && s.pacing.stallTimer == .idle) = true) : OutputsFollow s := by
  simp only [Bool.and_eq_true, beq_iff_eq] at h
  obtain ⟨⟨⟨⟨⟨hb, hm⟩, hh⟩, hv⟩, hp⟩, hs⟩ := h
  exact ⟨by simp [hb, hm, hh], by rw [hv, hb], by simp [hb, hp], by simp [hb, ht], fun _ => hs⟩

theorem outputs_of_off (s : State)
    (h : (!s.pacing.beltRun && !((s.sup.mode == .run) && holdSetEmpty s) && !s.pacing.valveOpen
      && s.pacing.setPoint == 0 && s.belt.timer == .idle) = true) : OutputsFollow s := by
  simp only [Bool.and_eq_true, Bool.not_eq_true', beq_iff_eq] at h
  obtain ⟨⟨⟨⟨hb, hr⟩, hv⟩, hp⟩, ht⟩ := h
  exact ⟨by rw [hb, hr], by rw [hv, hb], by simp [hb, hp], by simp [hb, ht], by simp [hb]⟩

/-! ## Well-formedness: every check refuses a term -/

theorem test_address_refused : (Instr.powerUp .r19200 32 (Vector.replicate 20 false)).wellFormed = false := by decide
theorem test_empty_answer_refused : (Instr.readerAnswer .entry []).wellFormed = false := by decide
theorem test_empty_probe_answer_refused : (Instr.probeAnswer []).wellFormed = false := by decide
theorem test_position_refused : (Instr.deadlineExpiry 24).wellFormed = false := by decide
theorem test_short_overlength_refused : (Instr.overlengthLine "@01 ST".toList).wellFormed = false := by decide
theorem test_return_in_line_refused : (Instr.lineDiscarded ['@', '0', '\r']).wellFormed = false := by decide
theorem test_no_at_refused : (Instr.lineDiscarded "01 ST*00".toList).wellFormed = false := by decide
theorem test_long_line_refused : (Instr.lineDiscarded ('@' :: List.replicate 96 'A')).wellFormed = false := by decide
theorem test_known_code_refused : (Instr.unknownCommand "GO".toList []).wellFormed = false := by decide
theorem test_long_code_refused : (Instr.unknownCommand "ZZZ".toList []).wellFormed = false := by decide
theorem test_spaced_field_refused : (Instr.tk ["1 2".toList]).wellFormed = false := by decide
theorem test_empty_field_refused : (Instr.tk [[]]).wellFormed = false := by decide
theorem test_long_request_refused : (Instr.pg [List.replicate 90 'A']).wellFormed = false := by decide
theorem test_request_accepted : (Instr.tk ["4".toList]).wellFormed = true := by decide

/-- No row of the table gives bits, so no word spells a command. -/
theorem test_no_word_decodes : decodeTableWord 8 0 = none := by decide

/-- An empty queue idles; a step takes the front of the queue. -/
theorem test_step_takes_the_front :
    (match step { parked with pending := [.hb [], .go []] } with
      | .next t => t.pacing.pauseCause && t.pending == [.go []]
      | .fault _ => false
      | .refused _ => false) = true := by decide

/-! ## The commands -/

/-- Power-up reads the switch, and an input wired active qualifies (R18, R172). -/
theorem test_power_up :
    after (.powerUp .r9600 7 ((Vector.replicate 20 false).set 0 true)) parked (fun t =>
      t.link.address == 7 && t.sup.mode == .loading && (channel t .ap).qualifying && !isActive t .ap) = true := by
  decide

/-- 400 pulses give 100 mm: EPM 400 takes the fourth pulse of each (R3). -/
theorem test_forward_pulse_completes_a_millimetre :
    after .forwardPulse (withAcc (withReverse running 7 9) 300) (fun t =>
      t.belt.odometer == 1 && t.belt.forwardAcc == 0 && t.belt.reverseCount == 0 && t.sup.runOn == 1) = true := by
  decide

/-- The odometer wraps to 0 (R5), and the position across a wrap is 716 (section 1.4). -/
theorem test_odometer_wraps :
    after .forwardPulse (withAcc (atOdometer running 16777215) 300) (fun t => t.belt.odometer == 0) = true
      ∧ travel (atOdometer running 400) 16776900 = 716 := by decide

theorem test_reverse_pulse_halts_at_fifty :
    after .reversePulse (withReverse running 300 49) (fun t =>
      t.sup.mode == .halt .beltReverse && !t.pacing.beltRun && (alert t .beltReverse).isSome) = true := by decide

def withTimer (s : State) (n : Nat) : State := { s with belt := { s.belt with timer := .running n } }

/-- The count reaches 30 (R9). -/
theorem test_encoder_stall_halts :
    ([Instr.encStall, .congestionTimerStep].all fun c =>
      after c (withTimer (withList running [rackRecord (some 0) 0]) 29) fun t =>
        t.sup.mode == .halt .encStall && t.belt.timer == .idle
          && t.tunnel.list.all fun r => r.flags.halted) = true := by decide

/-- A pulse handled before the thirtieth step restarts the timer, and the step then brings it to 1 (R9). -/
theorem test_pulse_before_the_last_step_restarts_the_timer :
    after .forwardPulse (withTimer running 29) (fun t => t.belt.timer == .running 0) = true
      ∧ after .encStall running (fun t => t.sup.mode == .run && t.belt.timer == .running 0) = true := by decide

theorem test_level_change_qualifies :
    after (.inputLevelChange .tf true) running (fun t => (channel t .tf).qualifying && !isActive t .tf) = true := by
  decide

theorem test_table_full_stops_the_belt :
    after (.filterTimeReached .tf) (turning running .tf false) (fun t =>
      t.pacing.exitCause && !t.pacing.beltRun && t.tray.lineHeld) = true := by decide

/-- Section 6.3's example: D3 opens with the odometer at 80000, and 117 and 042 are flagged, 063, 091 and 071 not. -/
theorem test_third_door_flags_two_racks :
    after (.filterTimeReached .d3)
      (turning
        (atOdometer
          (withList running
            [rackRecord (some 116) 73900, rackRecord (some 41) 75300, rackRecord (some 62) 77400,
             rackRecord (some 90) 78800, rackRecord (some 70) 79800]) 80000)
        .d3 false)
      (fun t => t.tunnel.list.map (fun r => r.flags.door) == [true, true, false, false, false]) = true := by decide

/-- 1173 is READ 117 (section 2.4): an enrolled rack is admitted and wakes the parked line. -/
theorem test_answer_admits :
    after (.readerAnswer .entry "11173".toList)
      (setStage (reading (withRow parked 116 .plate .unseen) .entry 1) .reading)
      (fun t => placeOf t 116 == some .admitting && t.sup.mode == .run && t.pacing.beltRun) = true := by decide

/-- 1178, 0000, 2517 and 2510 are invalid (section 2.4). -/
theorem test_invalid_answers_fail_the_attempt :
    (["11178", "10000", "12517", "12510"].all fun a =>
      after (.readerAnswer .exit a.toList) (reading parked .exit 1) fun t =>
        t.readers.exit == { attempt := some 2, failures := 1 }) = true := by decide

/-- The read at the stop of a rack that an en-route entry carries takes it off that list, whichever came first: a
vacant rack kept waiting is read at the return gate, and then enrolled by AUTOENROL (R29, R119). -/
theorem test_admission_clears_the_en_route_list :
    (let s := withEntries (setStage (withPar parked .autoEnrol 1) (.waiting .mode (.read 4)))
        [{ rack := some 4, target := none, lastEye := 0, deadline := 400 }];
      placeOf (settle s) 4 = some .admitting ∧ (settle s).returns.enRoute = []) := by decide

theorem test_third_timeout_is_unread :
    after (.attemptTimeout .ret) (reading parked .ret 3) (fun t =>
      t.readers.ret == { attempt := none, failures := 1 } && t.returns.enRoute.length == 1) = true := by decide

theorem test_poll_period_takes_poll :
    after .pollPeriodStart (withPar parked .poll 500) (fun t => t.rinse.cycle == .started 500 .rinse) = true := by
  decide

/-- 79.0 °C earns 17 of 82.0's 40, and the demand is 1800 times 17 over 40 (R75, R81). -/
theorem test_rinse_answer_sets_the_speed :
    credit factorySettings 790 = 17 ∧
    after (.probeAnswer (answer 0x52 790)) (polling running .rinse) (fun t =>
      t.pacing.speedDemand == 765 && t.pacing.setPoint == 765 && t.rinse.cycle == .started 1000 .wash) = true := by
  decide

theorem test_third_expiry_is_a_fault :
    after .probeWaitExpiry
      { polling parked .wash with
        rinse := { (polling parked .wash).rinse with
          wash := { (polling parked .wash).rinse.wash with consecutive := 2 } } }
      (fun t => t.rinse.wash.cause == some .probe && t.sup.mode == .warming && (alert t .washProbe).isSome)
      = true := by decide

theorem test_tunnel_stall_flags_every_record :
    after .tunnelStall
      { withList parked [rackRecord (some 0) 0, rackRecord none 5] with
        pacing := { parked.pacing with stallTimer := .counting 1 } }
      (fun t => (t.tunnel.list.all fun r => r.flags.stalled) && t.pacing.stallTimer == .reached) = true := by decide

theorem test_lamp_goes_off :
    after .rejectLampTimeout { parked with tunnel := { parked.tunnel with lamp := .on 1 } } (fun t =>
      t.tunnel.lamp == .off) = true := by decide

theorem test_one_diverter_goes_off :
    after (.diverterPulseEnd 2)
      { parked with returns := { parked.returns with diverters := Vector.replicate 4 (.pulsing 1) } }
      (fun t => t.returns.diverters[2] == .off && t.returns.diverters[1] == .pulsing 1) = true := by decide

/-- An entry of an en-route list. -/
def entry (n : Option Rack) (target : Option Station) (lastEye : Nat) : EnRoute :=
  { rack := n, target := target, lastEye := lastEye, deadline := 400 }

/-- An entry in the last tenth of its deadline. -/
def late (n : Option Rack) : EnRoute := { entry n none 0 with deadline := 1 }

theorem test_deadline_loses_the_rack :
    after (.deadlineExpiry 0) (withEntries (withRow parked 4 .cup .onReturn) [late (some 4)]) (fun t =>
      t.returns.enRoute == [] && placeOf t 4 == some .lost && (alert t .returnLost).isSome) = true := by decide

theorem test_hold_timer_lets_the_belt_run :
    after (.holdTimerExpiry .south)
      { parked with tray := { parked.tray with south := { state := .held 1, holdCount := 3, leakCount := 0 } } }
      (fun t => t.tray.south == { state := .running, holdCount := 3, leakCount := 0 }) = true := by decide

/-- CONGD 15: the 150th step of congestion sets the flag (R149). -/
theorem test_congestion_after_fifteen_seconds :
    after .congestionTimerStep
      { running with tray := { running.tray with lineHeld := true, congestionTimer := 149 } }
      (fun t => t.tray.congested && t.tray.congestionTimer == 150) = true := by decide

/-- The step that takes the stall timer from 1 to 0, a deadline to 0 and a hold to its end does what their rules say,
and a hold of the belt before it leaves no encoder-stall timer to expire (R8, R102, R143, R151). -/
theorem test_step_makes_the_ends :
    after .congestionTimerStep
      { withEntries (withList parked [rackRecord none 0]) [late (some 4), entry none none 0] with
        pacing := { parked.pacing with stallTimer := .counting 1 }
        tray := { parked.tray with south := { state := .held 1, holdCount := 3, leakCount := 0 } } }
      (fun t => t.pacing.stallTimer == .counting 0 && (t.tunnel.list.all fun r => r.flags.stalled)
        && (t.returns.enRoute.map fun e => e.deadline) == [399] && (alert t .returnLost).isSome
        && t.tray.south.state == .running) = true
      ∧ after (.hb []) (withTimer running 29) (fun t => t.belt.timer == .idle) = true := by decide

/-- A load handed over: the mode is WARMING and polling has begun (R88, R158). -/
theorem test_load_completion :
    (completeLoad State.reset .powerUp (some factoryImage)).sup.mode = .warming
      ∧ (completeLoad State.reset .powerUp (some factoryImage)).rinse.cycle = .started 200 .quiet := by decide

theorem test_half_written_store_fails_the_save :
    after (.saveCompletion (.mixed 1)) (withStore parked (.saving factoryImage)) (fun t =>
      t.sup.lastSave == .failed && (alert t .saveFailed).isSome && t.sup.storeOp == .none) = true := by decide

theorem test_overlength_line_is_counted :
    after (.overlengthLine ('@' :: List.replicate 119 'A')) parked (fun t =>
      t.link.overlength == 1 && t.link.buffer == .idle) = true := by decide +kernel

/-- Section 12.4's garbled exchange: the wrong check, and another card's line. -/
theorem test_garbled_lines_are_counted :
    after (.lineDiscarded "@01 TK 4*75".toList) parked (fun t => t.link.badCheck == 1) = true
      ∧ after (.lineDiscarded "@02 TK 4*75".toList) parked (fun t =>
          t.link.otherAddress == 1 && t.link.badCheck == 0) = true := by decide

/-- The reply that a command's next state is sending. -/
def replied (c : Instr) (s : State) (reply : String) : Bool :=
  after c s fun t => t.link.transmitter == .sending reply.toList

/-- "@01 TK 4" sums to hexadecimal 74 and "@01 HB" to 0B (R173). -/
theorem test_check_sums :
    judgeLine 1 "@01 TK 4*74".toList = .request ∧ judgeLine 1 "@01 HB*0B".toList = .request := by decide

theorem test_unknown_command : replied (.unknownCommand "ZZ".toList []) parked "$01 ZZ ER 1*3D" = true := by decide
theorem test_st_answers : after (.st []) parked (fun t => t.link.transmitter != .quiet) = true := by decide
theorem test_al_reports_the_mask : replied (.al []) parked "$01 AL OK 00000000000000000000*A8" = true := by decide

theorem test_ac_clears_one_kind :
    after (.ac ["ESTOP".toList]) (raise (raise parked .estop none) .encStall none) (fun t =>
      (alert t .estop).isNone && (alert t .encStall).isSome && t.sup.alertOutput) = true := by decide

theorem test_am_masks_a_kind :
    after (.am ["ESTOP".toList]) (raise parked .estop none) (fun t =>
      t.sup.mask[AlertKind.estop.index] && !t.sup.alertOutput) = true := by decide

/-- The wash record of R180's example. -/
def exampleRecord : WashRecord :=
  { serial := 5021, rack := some 116, readNumber := none, cls := some .plate, entry := some 20310,
    exit := some 26690, dose := 8000, washTime := 800, minRinse := some 817, verdict := .clean, flags := {} }

theorem test_tk_reports_the_example :
    washItem exampleRecord = "5021 117 - P 20310 26690 6380 8000 800 817 C -".toList
      ∧ after (.tk ["1".toList]) { parked with outbox := { queue := [exampleRecord], nextSerial := 5022 } }
        (fun t => t.outbox.queue == [] && t.outbox.nextSerial == 5022) = true := by decide

theorem test_tl_refuses_position_17 : replied (.tl ["17".toList]) parked "$01 TL ER 2*2A" = true := by decide
theorem test_rr_of_a_vacant_row : replied (.rr ["042".toList]) parked "$01 RR ER 7*33" = true := by decide

/-- A verdict in a reply is C, S or U (R178), with RR as with TK. -/
theorem test_rr_writes_the_verdict_as_a_letter :
    rowContent { newRow .cup .atUnload with lastVerdict := some .short, lastSerial := some 4980 } "VS".toList
      = "S 4980".toList := by decide

/-- Section 8.6's example: rows 038 to 045. -/
theorem test_rs_reads_the_example :
    placesContent
      (withRow (withRow (withRow (withRow (withRetired (withRow (withRow parked 38 .plate (.atStation 3)) 39
        .cutlery .inTunnel) 40 .atReturnEnd) 41 .cup .atUnload) 42 .tray .onReturn) 43 .cup .queued) 44 .cutlery .lost)
      37 8 = ".4T#DRQM".toList := by decide

theorem test_en_enrols :
    after (.en ["117".toList, "P".toList]) parked (fun t => row t 116 == some (newRow .plate .unseen)) = true := by
  decide

theorem test_dr_makes_vacant :
    after (.dr ["117".toList]) (withRow parked 116 .plate .lost) (fun t => row t 116 == none) = true := by decide

theorem test_rt_retires :
    after (.rt ["117".toList]) (withRow parked 116 .plate .lost) (fun t =>
      (row t 116).map Row.retired == some true) = true := by decide

theorem test_mk_corrects_a_place :
    after (.mk ["117".toList, "UNSEEN".toList]) (withRow parked 116 .plate .lost) (fun t =>
      placeOf t 116 == some .unseen) = true := by decide

theorem test_ss_writes_a_station :
    after (.ss ["2".toList, "0".toList, "PC".toList, "6".toList]) parked (fun t =>
      t.returns.stations[1] == { isOpen := false, accepted := ⟨true, true, false, false⟩, capacity := 6 }
        && t.returns.stations[0] == factoryStation) = true := by decide +kernel

theorem test_sq_changes_nothing_else :
    after (.sq []) parked (fun t => t.returns == parked.returns && t.link.transmitter != .quiet) = true := by decide

/-- Section 1.5's zone write: XEXIT 7000, D3E 7000 and FINALE 6900 are stored at once; D3E 7000 alone is not. -/
theorem test_ps_judges_the_zone_table :
    after (.ps ["XEXIT=7000".toList, "D3E=7000".toList, "FINALE=6900".toList]) (active parked .sk)
        (fun t => par t .xexit == 7000 && par t .d3e == 7000 && par t .finale == 6900) = true
      ∧ replied (.ps ["D3E=7000".toList]) (active parked .sk) "$01 PS ER 2*2D" = true := by decide

theorem test_pg_reports_a_pair : replied (.pg ["VNOM".toList]) parked "$01 PG OK VNOM=1800*38" = true := by decide

/-- GO refused in WARMING is answered "$01 GO ER 4*22" (R174). -/
theorem test_go_refused_in_warming : replied (.go []) (withMode parked .warming) "$01 GO ER 4*22" = true := by decide
theorem test_go_runs_a_parked_line :
    after (.go []) parked (fun t => t.sup.mode == .run && t.pacing.beltRun && t.pacing.valveOpen) = true := by decide

theorem test_sp_drains_an_occupied_line :
    after (.sp []) (withList running [rackRecord none 0]) (fun t => t.sup.draining && t.sup.mode == .run) = true := by
  decide

theorem test_cr_ends_a_halt :
    after (.cr []) (withMode parked (.halt .estop)) (fun t => t.sup.mode == .warming) = true := by decide

theorem test_hb_stands_the_belt : after (.hb []) running (fun t => !t.pacing.beltRun && t.sup.lineHeld) = true := by
  decide

theorem test_hr_starts_the_belt :
    after (.hr [])
      { running with
        belt := { running.belt with timer := .idle }
        pacing := { parked.pacing with pauseCause := true, stallTimer := .counting (-7) } }
      (fun t => t.pacing.beltRun && t.pacing.longestOverrun == 7 && t.belt.timer == .running 0) = true := by decide

theorem test_ld_refused_in_run : replied (.ld []) running "$01 LD ER 4*1C" = true := by decide

theorem test_sv_half_writes_the_store :
    after (.sv []) parked (fun t =>
      t.sup.storeOp != .none && match t.store with | .mixed _ => true | .whole _ _ => false) = true := by decide

/-- XR closes the line's records with RESET and begins a load (R67, R182). -/
theorem test_xr_closes_the_records :
    after (.xr []) (withRow (withList running [rackRecord (some 4) 0]) 4 .plate .inTunnel) (fun t =>
      t.tunnel.list == [] && (t.outbox.queue.map fun w => (w.flags.reset, w.verdict)) == [(true, .unknown)]
        && placeOf t 4 == some .unseen && t.sup.storeOp == .loading .lineReset) = true := by decide

theorem test_dg_answers : after (.dg []) parked (fun t => t.link.transmitter != .quiet) = true := by decide
theorem test_reply_end_frees_the_link :
    after .replyEnd (sending parked) (fun t => t.link.transmitter == .quiet) = true := by decide

/-- The verdicts of section 5.7's examples. -/
theorem test_verdict_examples :
    verdictOf factorySettings (some .plate) 8000 800 {} = .clean
      ∧ verdictOf factorySettings (some .cup) 5400 800 { exitUnread := true } = .short
      ∧ verdictOf factorySettings (some .cutlery) 3310 800 { probeGap := true } = .short
      ∧ verdictOf factorySettings none 7000 800 { anon := true, forced := true } = .short
      ∧ verdictOf factorySettings (some .tray) 8000 800 { stalled := true } = .short
      ∧ verdictOf (paramSet factorySettings .stallrej 0) (some .tray) 8000 800 { stalled := true } = .clean
      ∧ verdictOf factorySettings (some .plate) 8000 800 { repaired := true } = .unknown
      ∧ verdictOf factorySettings (some .cutlery) 7300 700 { probeGap := true } = .clean
      ∧ verdictOf factorySettings (some .plate) 6400 420 { rewash := true } = .short := by decide

/-- 70.8 °C is the first temperature with a credit, 78.0 °C has 14 and 77.0 °C has 11 (sections 5.2 and 5.6). -/
theorem test_credit_examples :
    credit factorySettings 707 = 0 ∧ credit factorySettings 708 = 1 ∧ credit factorySettings 780 = 14
      ∧ credit factorySettings 770 = 11 := by decide

/-! ## The hypotheses of the statements are met

One theorem for each statement with hypotheses: a state and operands that meet all of them together, at the
boundary of each clause. -/

theorem meets_StepTakesTheFrontCommand :
    { parked with pending := [.go []] }.pending = [.go []] ∧ parked.pending = [] := by decide

theorem meets_LinesAreLostWhileSending :
    onTheLink (.go []) = true ∧ (sending parked).link.transmitter = .sending ['$'] := by decide

theorem meets_ForwardPulseShortOfAMillimetre :
    (withAcc running 299).belt.forwardAcc + 100 < par (withAcc running 299) .epm
      ∧ (withTimer running 29).belt.timer = .running 29 := by decide

/-- One millimetre at the greatest accumulator that gives one, and two at EPM 50. -/
theorem meets_ForwardPulseAdvancesTheOdometer :
    (let s := withAcc running 300;
      50 ≤ par s .epm ∧ s.belt.forwardAcc < par s .epm ∧ par s .epm ≤ s.belt.forwardAcc + 100)
    ∧ (let s := withAcc (withPar running .epm 50) 49;
      50 ≤ par s .epm ∧ s.belt.forwardAcc < par s .epm ∧ par s .epm ≤ s.belt.forwardAcc + 100
        ∧ pulseTravels s = 2)
    ∧ rackAtStop (setStage running (.waiting .full (.read 4))).stage = some 4 := by decide

/-- A count that stays below RUNON, and the one that reaches it. -/
theorem meets_RunOnParksAnEmptyLine :
    (let s := withRunOn (withAcc running 300) 1998;
      s.stage = .empty ∧ pulseTravels s = 1 ∧ s.sup.mode = .run ∧ lineEmpty s = true ∧ s.sup.draining = false
        ∧ s.sup.lineHeld = false ∧ s.sup.runOn + 1 < par s .runon)
    ∧ (let s := withRunOn (withAcc running 300) 1999;
      s.stage = .empty ∧ pulseTravels s = 1 ∧ s.sup.mode = .run ∧ lineEmpty s = true ∧ s.sup.draining = false
        ∧ s.sup.lineHeld = false ∧ s.sup.runOn + 1 = par s .runon) := by decide

/-- A lapse count that stays below ADMITLAPSE, and the one that reaches it. -/
theorem meets_PendingAdmissionLapses :
    (let s := withAcc (admitting running (some 4) 798) 300;
      s.stage = .admitting { rack := some 4, cls := some .plate, rewash := false } 798 none ∧ s.tunnel.list = []
        ∧ pulseTravels s = 1 ∧ isActive s .ap = false ∧ 798 + 1 < par s .admitLapse)
    ∧ (let s := withAcc (admitting running (some 4) 799) 300;
      s.stage = .admitting { rack := some 4, cls := some .plate, rewash := false } 799 none ∧ s.tunnel.list = []
        ∧ pulseTravels s = 1 ∧ isActive s .ap = false ∧ 799 + 1 = par s .admitLapse) := by decide

/-- A head at the end of the exit window, with another record behind it that is 1 mm short of it. -/
theorem meets_OverdueHeadIsClosedAsMissing :
    let s := withAcc (atOdometer (withList running [rackRecord (some 4) 1000, rackRecord none 1001]) 7520) 300
    s.tunnel.list = rackRecord (some 4) 1000 :: [rackRecord none 1001] ∧ s.stage = .empty ∧ pulseTravels s = 1
      ∧ par s .xexit + par s .extol ≤ 12300 ∧ travel s (rackRecord (some 4) 1000).entry = par s .xexit + par s .extol
      ∧ ∀ q ∈ [rackRecord none 1001].head?, travel s q.entry < par s .xexit + par s .extol := by decide

/-- Counts of 48, which a pulse takes to 49; of 50, which stays; and of 49, which reaches 50. -/
theorem meets_ReverseTravelHaltsAtFifty :
    0 < par running .epm
    ∧ (let s := withReverse running 300 48;
      s.belt.reverseCount + (s.belt.reverseAcc + 100) / par s .epm < 50)
    ∧ (withReverse running 300 50).belt.reverseCount = 50
    ∧ (let s := withReverse running 300 49;
      s.belt.reverseCount < 50 ∧ 50 ≤ s.belt.reverseCount + (s.belt.reverseAcc + 100) / par s .epm) := by decide

theorem running_outputs : OutputsFollow running := outputs_of_on _ 0 rfl (by decide)
theorem running_settled : Settled running := settled_of _ (by decide)

theorem meets_EncoderStallHaltsTheLine :
    OutputsFollow (withTimer running 29) ∧ (withTimer running 29).belt.timer = .running 29 ∧ 30 ≤ 29 + 1 :=
  ⟨outputs_of_on _ 29 rfl (by decide), rfl, by decide⟩

theorem meets_InputsAreFilteredOneByOne : (channel (turning running .sk false) .sk).qualifying = true := by decide

/-- Each kind of event that cannot arise, in a state where it cannot: every timer with two tenths to go. -/
theorem meets_EventsThatCannotAriseChangeNothing :
    ((channel parked .ap).qualifying = false ∧ (reader parked .exit).attempt = none
      ∧ parked.pacing.stallTimer ≠ .counting 1 ∧ parked.sup.storeOp = .none ∧ State.reset.rinse.cycle = .notStarted)
    ∧ (∀ n, (withTimer running 28).belt.timer = .running n → n + 1 < 30)
    ∧ (∀ n, { parked.tunnel with lamp := .on 2 }.lamp = .on n → 1 < n)
    ∧ (∀ n, { parked.returns with
        diverters := Vector.replicate 4 (.pulsing 2) }.diverters[0] = .pulsing n → 1 < n)
    ∧ (∀ e ∈ (withEntries parked [{ late none with deadline := 2 }]).returns.enRoute[0]?, 1 < e.deadline)
    ∧ (withEntries State.reset [late none]).returns.returnBelt = false
    ∧ ∀ n, (trayChannel (setTrayChannel parked .north { state := .held 2, holdCount := 1, leakCount := 0 })
        .north).state = .held n → 1 < n :=
  ⟨by decide, fun n h => by cases h; decide, fun n h => by cases h; decide, fun n h => by cases h; decide, by decide,
    rfl, fun n h => by cases h; decide⟩

theorem meets_DoorsHoldTheBeltAndFlagTheRacks :
    ((channel (turning running .d1 false) (doorInput .d1)).qualifying = true
      ∧ (channel (turning running .d1 false) (doorInput .d1)).filtered = false)
    ∧ (channel (turning running .d1 true) (doorInput .d1)).qualifying = true
      ∧ (channel (turning running .d1 true) (doorInput .d1)).filtered = true := by decide

theorem meets_TableFullStopsTheBelt :
    let s := turning (withList running [rackRecord (some 4) 0]) .tf false
    OutputsFollow s ∧ Settled s ∧ nobodyWaits s = true ∧ s.pacing.beltRun = true ∧ turnsOn s .tf :=
  ⟨outputs_of_on _ 0 rfl (by decide), settled_of _ (by decide), by decide⟩

/-- A line that is not in HALT, and one that is. -/
theorem meets_EstopHaltsTheLine :
    turnsOn (turning running .es false) .es ∧ running.sup.mode.isHalt = false
      ∧ turnsOn (turning (withMode parked (.halt .encStall)) .es false) .es
      ∧ (withMode parked (.halt .encStall)).sup.mode.isHalt = true := by decide

theorem meets_FullSwitchesStopTheirBelts :
    (channel (turning running .rf false) .rf).qualifying = true
      ∧ (channel (turning running .fn false) (headFullInput .north)).qualifying = true := by decide

/-- A running belt: without congestion, congested below HOLDLIM, and congested at HOLDLIM; and a belt that does not
run. -/
theorem meets_TraysAreHeldWhileCongested :
    turnsOn (turning running .hn false) (headEye .north) ∧ (trayChannel running .north).state = .running
      ∧ running.tray.congested = false ∧ (trayChannel running .north).holdCount < par running .holdlim
      ∧ (let s := { running with tray := { running.tray with
            congested := true, north := { state := .running, holdCount := 6, leakCount := 0 } } };
        turnsOn (turning s .hn false) (headEye .north) ∧ s.tray.congested = true
          ∧ (trayChannel s .north).holdCount = par s .holdlim)
      ∧ turnsOn (turning State.reset .hn false) (headEye .north)
      ∧ (trayChannel State.reset .north).state ≠ .running := by decide

theorem meets_ApproachEyeOpensAndEndsTheStage :
    (let s := turning running .ap false;
      Settled s ∧ s.stage = .empty ∧ s.readers.entry.attempt = none ∧ turnsOn s .ap)
    ∧ (let s := turning (setStage running .reading) .ap true;
      Settled s ∧ s.stage = .reading ∧ turnsOff s .ap)
    ∧ (let s := turning (setStage running (.waiting .retired (.read 4))) .ap true;
      Settled s ∧ s.stage = .waiting .retired (.read 4) ∧ turnsOff s .ap) :=
  ⟨⟨settled_of _ (by decide), by decide⟩,
    ⟨settled_of _ (by decide), by decide⟩,
    ⟨settled_of _ (by decide), by decide⟩⟩

theorem meets_EntryEyeTakesThePendingAdmission :
    let s := turning (admitting running (some 4) 5) .en false
    s.stage = .admitting { rack := some 4, cls := some .plate, rewash := false } 5 none ∧ isActive s .ap = false
      ∧ turnsOn s .en := by decide

/-- Fifteen records, which leave room for one more, and sixteen, which leave none. -/
theorem meets_ForcedEntriesAreTrackedWhileThereIsRoom :
    (let s := turning (withList running (List.replicate 15 (rackRecord none 0))) .en false;
      s.stage.pending? = none ∧ nobodyWaits s = true ∧ turnsOn s .en ∧ s.tunnel.list.length < 16
        ∧ reservation s + 1 ≤ 96)
    ∧ (let s := turning (withList running (List.replicate 16 (rackRecord none 0))) .en false;
      s.stage.pending? = none ∧ nobodyWaits s = true ∧ turnsOn s .en ∧ ¬s.tunnel.list.length < 16) :=
  ⟨by decide,
    by decide⟩

/-- A parked line with a record 560 mm ahead, SPACING as delivered; a vacant rack with AUTOENROL 1; and a read while
another admission is pending and another outcome is held. -/
theorem meets_ApproachReadAdmits :
    (let s := atOdometer
      (withList (setStage (reading (withRow parked 4 .plate .onReturn) .entry 3) .reading) [rackRecord none 0]) 560
    s.readers.entry.attempt = some 3 ∧ s.stage = .reading ∧ s.sup.mode = .parked ∧ s.sup.draining = false
      ∧ row s 4 = some (newRow .plate .onReturn) ∧ (newRow .plate .onReturn).retired = false
      ∧ s.tunnel.list.length < 16 ∧ reservation s < 96
      ∧ ∀ r ∈ s.tunnel.list.getLast?, par s .spacing ≤ travel s r.entry)
    ∧ (let s := setStage (reading (withPar running .autoEnrol 1) .entry 1) .reading;
      s.readers.entry.attempt = some 1 ∧ s.stage = .reading ∧ s.sup.mode = .run ∧ s.sup.draining = false
        ∧ row s 5 = none ∧ par s .autoEnrol = 1 ∧ reservation s < 96)
    ∧ (let s := setStage (reading (withRow (withRow running 4 .cup .unseen) 5 .cup .queued) .entry 2)
        (.admitting { rack := none, cls := none, rewash := false } 5 (some (.read 5)));
      s.readers.entry.attempt = some 2 ∧ row s 4 = some (newRow .cup .unseen) ∧ row s 5 = some (newRow .cup .queued)
        ∧ s.stage = .admitting { rack := none, cls := none, rewash := false } 5 (some (.read 5))) := by decide

theorem meets_RetiredAndUnenrolledRacksAreRefused :
    let s := setStage (reading (withRetired parked 4 .lost) .entry 1) .reading
    s.readers.entry.attempt = some 1 ∧ s.stage = .reading ∧ Settled s ∧ s.sup.mode = .parked
      ∧ s.sup.draining = false ∧ row s 4 = some { newRow .plate .lost with retired := true }
      ∧ row s 5 = none ∧ par s .autoEnrol = 0 :=
  ⟨by decide, by decide, settled_of _ (by decide), by decide⟩

/-- A head at each end of the exit window, one that is early by 1 mm, an empty list, and the reservation at and
beyond its limit. -/
theorem meets_ExitEyeMatchesTheHeadOrFindsAnExtra :
    (let s := turning (atOdometer (withList running [rackRecord (some 4) 0]) 6280) .ex false;
      s.tunnel.slot = none ∧ nobodyWaits s = true ∧ s.readers.exit.attempt = none ∧ turnsOn s .ex
        ∧ s.tunnel.list = [rackRecord (some 4) 0] ∧ par s .xexit = travel s (rackRecord (some 4) 0).entry + par s .extol)
    ∧ (let s := turning (atOdometer (withList running [rackRecord (some 4) 0]) 6520) .ex false;
      travel s (rackRecord (some 4) 0).entry = par s .xexit + par s .extol ∧ turnsOn s .ex)
    ∧ (let s := turning (atOdometer (withList running [rackRecord (some 4) 0]) 6279) .ex false;
      (∀ h ∈ s.tunnel.list.head?, travel s h.entry + par s .extol < par s .xexit) ∧ reservation s + 1 ≤ 96
        ∧ turnsOn s .ex)
    ∧ (let s := turning { running with outbox := { queue := List.replicate 96 exampleRecord, nextSerial := 1 } } .ex
        false;
      (∀ h ∈ s.tunnel.list.head?, travel s h.entry + par s .extol < par s .xexit) ∧ ¬reservation s + 1 ≤ 96
        ∧ turnsOn s .ex) :=
  ⟨by decide,
    by decide, by decide,
    by decide⟩

theorem meets_ExitEyeClearClosesTheCheckUnread :
    (let s := turning (withCheck running (checkRecord (some 4) 0)) .ex true;
      nobodyWaits s = true ∧ turnsOff s .ex ∧ s.tunnel.slot = some (checkRecord (some 4) 0)
        ∧ (checkRecord (some 4) 0).readNumber = none)
    ∧ (let s := turning running .ex true;
      nobodyWaits s = true ∧ turnsOff s .ex ∧ s.tunnel.slot = none ∧ Settled s) :=
  ⟨by decide,
    ⟨by decide, by decide, by decide, settled_of _ (by decide)⟩⟩

/-- The record's own rack; an anonymous record with another rack at the head; and an EXTRA record. -/
theorem meets_ExitReadConfirmsTheRecord :
    (let s := reading (withCheck running (checkRecord (some 4) 0)) .exit 1
    s.readers.exit.attempt = some 1 ∧ nobodyWaits s = true ∧ s.tunnel.slot = some (checkRecord (some 4) 0)
      ∧ (checkRecord (some 4) 0).rack = some 4 ∧ (checkRecord (some 4) 0).readNumber = none
      ∧ (checkRecord (some 4) 0).flags.extra = false)
    ∧ (let s := reading (withRow (withList (withCheck running (checkRecord none 0)) [rackRecord (some 5) 9]) 4 .cup
        .queued) .exit 1;
      s.readers.exit.attempt = some 1 ∧ nobodyWaits s = true ∧ s.tunnel.slot = some (checkRecord none 0)
        ∧ (∀ h ∈ s.tunnel.list.head?, h.rack ≠ some 4) ∧ row s 4 = some (newRow .cup .queued))
    ∧ (let s := reading (withCheck running { checkRecord none 0 with flags := { extra := true } }) .exit 1;
      s.readers.exit.attempt = some 1 ∧ s.tunnel.slot = some { checkRecord none 0 with flags := { extra := true } }
        ∧ row s 4 = none) := by decide

/-- The check holds an anonymous record, and the head is the rack that is read. -/
theorem meets_ExitReadOfTheHeadRepairs :
    let s := reading (withList (withCheck running (checkRecord none 0)) [rackRecord (some 5) 600]) .exit 3
    s.readers.exit.attempt = some 3 ∧ nobodyWaits s = true ∧ s.tunnel.slot = some (checkRecord none 0)
      ∧ (checkRecord none 0).rack ≠ some 5 ∧ (checkRecord none 0).readNumber = none
      ∧ (checkRecord none 0).flags.extra = false ∧ s.tunnel.list = rackRecord (some 5) 600 :: []
      ∧ (rackRecord (some 5) 600).rack = some 5 := by decide

theorem meets_ExitReadOfAnotherRackSwaps :
    let s := withRow (reading (withCheck running (checkRecord (some 4) 0)) .exit 1) 9 .cup .queued
    s.readers.exit.attempt = some 1 ∧ nobodyWaits s = true ∧ s.tunnel.slot = some (checkRecord (some 4) 0)
      ∧ (checkRecord (some 4) 0).rack = some 4 ∧ (4 : Rack) ≠ 9 ∧ (checkRecord (some 4) 0).flags.extra = false
      ∧ (∀ h ∈ s.tunnel.list.head?, h.rack ≠ some 9) ∧ row s 9 = some (newRow .cup .queued) := by decide

/-- The table as delivered is one that the card can hold. -/
theorem meets_CreditFollowsTheTable :
    creditTableValid factorySettings = true ∧ paramGet factorySettings .cc6 ≤ 255
      ∧ 699 < paramGet factorySettings .ct1 ∧ paramGet factorySettings .ct6 ≤ 900 := by decide

theorem meets_PollPeriodTakesPoll : (polling running .wash).rinse.cycle = .started 1000 .wash := by decide

/-- 1200, the greatest temperature of an answer, and an answer with the other head's letter. -/
theorem meets_RinseSampleAccruesAndSetsTheSpeed :
    (polling running .rinse).rinse.cycle = .started 1000 .rinse
      ∧ answer 0x52 1200 = [0x52, 0x04, 0xB0, 0xFA] ∧ (0x52 : Byte) + 0x04 + 0xB0 + 0xFA = 0
      ∧ 256 * (0x04 : Byte).toNat + (0xB0 : Byte).toNat ≤ 1200 ∧ running.sup.mode = .run
      ∧ (polling parked .rinse).sup.mode = .parked ∧ nobodyWaits (polling parked .rinse) = true
      ∧ (withMode (polling parked .rinse) .warming).rinse.wash.latest = .temp 650
      ∧ State.reset.rinse.wash.latest ≠ .temp 650
      ∧ (answer 0x57 700).head? ≠ some 0x52 := by decide

theorem meets_ThirdInvalidSampleIsAProbeFault :
    (let s := { running with rinse := { cycle := .started 1000 .rinse, wash := running.rinse.wash
                                        rinse := { running.rinse.rinse with consecutive := 2 } } };
      s.rinse.cycle = .started 1000 .rinse ∧ s.rinse.rinse.consecutive = 2)
    ∧ (let s := { parked with rinse := { cycle := .started 1000 .wash, rinse := parked.rinse.rinse
                                         wash := { parked.rinse.wash with consecutive := 2 } } };
      s.rinse.cycle = .started 1000 .wash ∧ s.rinse.wash.consecutive = 2) := by decide

theorem meets_WashSampleAccrues :
    (polling running .wash).rinse.cycle = .started 1000 .wash ∧ answer 0x57 600 = [0x57, 0x02, 0x58, 0x4F]
      ∧ (0x57 : Byte) + 0x02 + 0x58 + 0x4F = 0 ∧ 256 * (0x02 : Byte).toNat + (0x58 : Byte).toNat ≤ 1200
      ∧ (polling parked .wash).sup.mode = .parked ∧ nobodyWaits (polling parked .wash) = true := by decide

/-- Another echo; and the awaited one before a text that is no rack's tag. -/
theorem meets_AnswersAreJudgedByEchoAndCheckDigit :
    (reader (reading parked .ret 2) .ret).attempt = some 2 ∧ '1' ≠ digitChar 2 ∧ digitChar 2 = '2'
      ∧ ∀ n : Rack, "12".toList ≠ tagText n := by
  refine ⟨by decide, by decide, by decide, fun n h => ?_⟩
  simpa [tagText] using congrArg List.length h

theorem meets_AttemptTimeoutFailsTheAttempt :
    (reader (reading parked .exit 2) .exit).attempt = some 2
    ∧ (let s := setStage (reading parked .entry 3) .reading;
      Settled s ∧ s.readers.entry.attempt = some 3 ∧ s.stage = .reading ∧ s.sup.mode = .parked
        ∧ s.sup.draining = false ∧ par s .admitUnread = 0) :=
  ⟨by decide, settled_of _ (by decide), by decide⟩

/-- The first station after the pointer takes the rack; and with every station closed none does. -/
theorem meets_ReturnReadDispatchesRoundRobin :
    (let s := reading (withRow parked 4 .plate .atUnload) .ret 1;
      s.readers.ret.attempt = some 1 ∧ Settled s ∧ nobodyWaits s = true ∧ row s 4 = some (newRow .plate .atUnload)
        ∧ (newRow .plate .atUnload).retired = false ∧ s.returns.enRoute.length < 24
        ∧ stationTakes s (newRow .plate .atUnload) (pointerOf s.returns.pointers .plate + 1 + 0) = true)
    ∧ (let s := { reading (withRow parked 4 .plate .atUnload) .ret 1 with
          returns := { parked.returns with stations := Vector.replicate 4 { factoryStation with isOpen := false } } };
      Settled s ∧ nobodyWaits s = true ∧ ∀ d : Fin 4, stationTakes s (newRow .plate .atUnload) d = false)
    ∧ (let s := reading (withRow (withRetired parked 4 .unseen) 5 .cup .queued) .ret 3;
      s.readers.ret.attempt = some 3 ∧ Settled s ∧ nobodyWaits s = true ∧ s.returns.enRoute.length < 24
        ∧ row s 4 = some { newRow .plate .unseen with retired := true } ∧ row s 5 = some (newRow .cup .queued)
        ∧ row s 6 = none)
    ∧ (let s := withEntries (reading parked .ret 3) (entry none none 1 :: List.replicate 23 (entry none none 0));
      s.readers.ret.attempt = some 3 ∧ Settled s ∧ nobodyWaits s = true
        ∧ s.returns.enRoute = entry none none 1 :: List.replicate 23 (entry none none 0)
        ∧ (List.replicate 23 (entry none none 0)).length = 23) :=
  ⟨⟨by decide, settled_of _ (by decide), by decide, by decide, by decide, by decide, by decide +kernel⟩,
    ⟨settled_of _ (by decide), by decide, by decide +kernel⟩,
    ⟨by decide, settled_of _ (by decide), by decide⟩,
    by decide, settled_of _ (by decide), by decide, rfl, by decide⟩

/-- An entry at its target, one on its way to another, and a list with nothing that has passed the eye before. -/
theorem meets_DiverterEyesSortTheRacks :
    (let s := turning (withEntries parked [entry (some 1) none 0, entry (some 4) (some 2) 2]) .v3 false;
      turnsOn s (diverterEye 2) ∧ s.returns.enRoute = [entry (some 1) none 0] ++ entry (some 4) (some 2) 2 :: []
        ∧ (∀ x ∈ [entry (some 1) none 0], x.lastEye ≠ (2 : Station).val)
        ∧ (entry (some 4) (some 2) 2).lastEye = (2 : Station).val
        ∧ (entry (some 4) (some 2) 2).target = some 2 ∧ (entry (some 4) (some 3) 2).target ≠ some 2)
    ∧ (let s := turning (withEntries parked [entry (some 1) none 0]) .v3 false;
      turnsOn s (diverterEye 2) ∧ ∀ x ∈ s.returns.enRoute, x.lastEye ≠ (2 : Station).val) :=
  ⟨by decide,
    by decide⟩

theorem meets_ReturnEndEyeTakesTheOldestEntry :
    (let s := turning (withEntries parked [entry (some 1) none 3, entry (some 4) none 4]) .re false;
      turnsOn s .re ∧ s.returns.enRoute = [entry (some 1) none 3] ++ entry (some 4) none 4 :: []
        ∧ (∀ x ∈ [entry (some 1) none 3], x.lastEye ≠ 4) ∧ (entry (some 4) none 4).lastEye = 4)
    ∧ (let s := turning (withEntries parked [entry (some 1) none 3]) .re false;
      turnsOn s .re ∧ ∀ x ∈ s.returns.enRoute, x.lastEye ≠ 4)
    ∧ turnsOff (turning parked .re true) .re :=
  ⟨by decide, by decide,
    by decide⟩

/-- The step with an entry that it loses, and one with a stall timer whose last tenth has been taken. -/
theorem meets_TenthStepCountsEveryTimer :
    (let s := withEntries (withTimer running 28) [late (some 4), entry none none 0];
      (∀ n, s.belt.timer = .running n → n + 1 < 30) ∧ s.returns.returnBelt = true
        ∧ [late (some 4)] = s.returns.enRoute.filter fun e => decide (e.deadline ≤ 1))
    ∧ { parked.pacing with stallTimer := .counting 1 }.stallTimer = .counting 1 :=
  ⟨⟨fun n h => by cases h; decide, by decide⟩, rfl⟩

theorem meets_TimersRunOut :
    { parked with pacing := { parked.pacing with stallTimer := .counting 1 } }.pacing.stallTimer = .counting 1
      ∧ { parked with tunnel := { parked.tunnel with lamp := .on 1 } }.tunnel.lamp = .on 1
      ∧ { parked with returns := { parked.returns with
          diverters := Vector.replicate 4 (.pulsing 1) } }.returns.diverters[3] = .pulsing 1
      ∧ (trayChannel { parked with tray := { parked.tray with
          north := { state := .held 1, holdCount := 2, leakCount := 0 } } } .north).state = .held 1
      ∧ (withEntries parked [late none]).returns.enRoute = [] ++ late none :: [] ∧ (late none).deadline = 1
      ∧ (withEntries parked [late none]).returns.returnBelt = true := by decide

/-- Stored serials at the ends of each range. -/
theorem meets_PowerUpSkipsTheSerial :
    (let s := { parked with store := .whole { factoryImage with serial := 998999 } 0 };
      s.store = .whole { factoryImage with serial := 998999 } 0)
    ∧ (1 ≤ 998999 ∧ 998999 ≤ 998999) ∧ (998999 < 999000 ∧ 999999 ≤ 999999) ∧ (999999 < 1000000)
    ∧ (withStore parked (.loading .powerUp)).sup.storeOp = .loading .powerUp ∧ goodImage? (.mixed 7) = none
    ∧ { parked with store := .mixed 7 }.store = .mixed 7 :=
  ⟨rfl, by decide, by decide, by decide, rfl, rfl, rfl⟩

/-- A load of either kind, on a line in LOADING and on one in HALT. -/
theorem meets_LoadCompletionHandsTheSettingsOver :
    State.reset.sup.storeOp = .loading .powerUp ∧ State.reset.stage = .empty ∧ State.reset.returns.enRoute = []
      ∧ State.reset.sup.mode = .loading
      ∧ (withStore State.reset (.loading .lineReset)).sup.storeOp = .loading .lineReset
      ∧ nobodyWaits State.reset = true ∧ (withMode State.reset (.halt .estop)).sup.mode.isHalt = true := by decide

theorem meets_SavesWriteTheImageOfTheRequest :
    linkQuiet parked ∧ parked.sup.storeOp = .none ∧ (withStore parked (.loading .powerUp)).sup.storeOp ≠ .none
      ∧ (withStore parked (.saving factoryImage)).sup.storeOp = .saving factoryImage
      ∧ StoreContents.mixed 1 ≠ .whole factoryImage (checkWord factoryImage) :=
  ⟨rfl, rfl, by simp [withStore], rfl, by simp⟩

theorem meets_LdLoadsALineAtRest :
    linkQuiet parked ∧ parked.sup.storeOp = .none ∧ parked.sup.mode ≠ .loading ∧ parked.sup.mode ≠ .run
      ∧ lineEmpty parked = true ∧ parked.returns.enRoute = [] ∧ nobodyWaits parked = true
      ∧ linkQuiet running ∧ running.sup.mode = .run ∧ lineEmpty (withList parked [rackRecord none 0]) = false
      ∧ (withStore parked (.loading .powerUp)).sup.storeOp ≠ .none :=
  ⟨rfl, rfl, by decide, by decide, by decide, rfl, by decide, rfl, rfl, by decide, by simp [withStore]⟩

/-- XR is taken on a line with a record on it, and with a rack at the stop. -/
theorem meets_XrResetsEveryBlock :
    linkQuiet (active (setStage (withList running [rackRecord (some 4) 0]) (.waiting .retired (.read 5))) .ap) := rfl

/-- A request line carries a "*" third from its end. -/
theorem star_of_requestLine (address check : Nat) (command : Text) (fields : List Text) :
    ((requestLine address command fields check).reverse)[2]? = some '*' := by
  simp [requestLine, hexText]

/-- Overlength lines of 97 characters; a line of 8 characters, and one of 11 without a "*" third from its end;
and lines with another address and with a wrong check, one with a "*" in its field. -/
theorem meets_DiscardedLinesAreCounted :
    (linkQuiet parked ∧ (Instr.lineDiscarded "@01 ST*7".toList).wellFormed = true
      ∧ (Instr.lineDiscarded "@01 TK 4-74".toList).wellFormed = true ∧ 2 ≠ parked.link.address
      ∧ 1 = parked.link.address)
    ∧ (requestLine 1 "TK".toList ["4".toList] 0x74 = "@01 TK 4*74".toList
      ∧ requestLine 1 "TK".toList ["4*4".toList] 0x74 = "@01 TK 4*4*74".toList)
    ∧ ("TK".toList.length = 2 ∧ (∀ c ∈ "TK".toList, c ≠ '@' ∧ c ≠ '\r')
      ∧ ∀ f ∈ ["4".toList, "4*4".toList], fieldWellFormed f = true)
    ∧ ((requestLine 1 "TK".toList ["4".toList] 0x74).length ≤ 96
      ∧ checkSum (checkedText 1 "TK".toList ["4".toList]) ≠ 0x75)
    ∧ (Instr.overlengthLine ('@' :: List.replicate 96 'A')).wellFormed = true
    ∧ ∀ (address check : Nat) (command : Text) (fields : List Text),
      "@01 ST*7".toList ≠ requestLine address command fields check
      ∧ "@01 TK 4-74".toList ≠ requestLine address command fields check :=
  ⟨by decide, by decide, ⟨rfl, by simp, by decide⟩, by decide, by decide +kernel, fun a k c fs => by
    constructor <;> intro h <;> have := star_of_requestLine a k c fs <;> rw [← h] at this <;>
      exact absurd this (by decide)⟩

theorem meets_ReportsChangeOnlyTheLink :
    linkQuiet parked ∧ row (withRow parked 4 .cup .lost) 4 = some (newRow .cup .lost) ∧ row parked 4 = none
      ∧ "ZZ".toList ∉ Config.commandCodes := ⟨rfl, by decide⟩

/-- HB on a running belt; HR on one that PAUSE alone holds. -/
theorem meets_PauseStandsAndReleasesTheBelt :
    (linkQuiet running ∧ OutputsFollow running ∧ holdSetEmpty running = true)
    ∧ (let s := withList { running with
          belt := { running.belt with timer := .idle }
          pacing := { parked.pacing with pauseCause := true, stallTimer := .counting (-7) } } [rackRecord none 0];
      linkQuiet s ∧ OutputsFollow s ∧ Settled s ∧ nobodyWaits s = true ∧ s.sup.mode = .run ∧ lineEmpty s = false
        ∧ s.pacing.pauseCause = true ∧ s.pacing.exitCause = false ∧ s.pacing.doorCause = false
        ∧ s.rinse.rinse.cause = none ∧ s.rinse.wash.cause = none) :=
  ⟨⟨rfl, running_outputs, by decide⟩, rfl, outputs_of_off _ (by decide), settled_of _ (by decide), by decide⟩

/-- Masks with and without a store operation, and a station whose capacity is written to 1. -/
theorem meets_AlertsMaskAndStationsAreSet :
    linkQuiet parked ∧ [AlertKind.estop, .trayLeak] ≠ [] ∧ parked.sup.storeOp = .none
      ∧ (withStore parked (.saving factoryImage)).sup.storeOp ≠ .none
      ∧ stationFields? ["4".toList, "1".toList, "-".toList, "1".toList]
          = some (3, { isOpen := true, accepted := ⟨false, false, false, false⟩, capacity := 1 }) :=
  ⟨rfl, by decide, rfl, by simp [withStore], by decide⟩

theorem meets_TkTakesTheOldestRecords : linkQuiet running ∧ 1 ≤ 8 ∧ 8 ≤ 8 ∧ Settled running
    ∧ nobodyWaits running = true := ⟨rfl, by decide, by decide, running_settled, by decide⟩

/-- A vacant row, a row held by a collection and one that is not, with and without a store operation. -/
theorem meets_RegistryCommandsChangeOneRow :
    (let s := withRow (withRow parked 4 .cup .atExit) 5 .cup .atUnload;
      linkQuiet s ∧ Settled s ∧ nobodyWaits s = true ∧ row s 6 = none ∧ s.sup.storeOp = .none
        ∧ row s 4 = some (newRow .cup .atExit) ∧ row s 5 = some (newRow .cup .atUnload))
    ∧ (withStore parked (.saving factoryImage)).sup.storeOp ≠ .none :=
  ⟨⟨rfl, settled_of _ (by decide), by decide, by decide, rfl, by decide⟩, by simp [withStore]⟩

/-- A field without "=", protected parameters without the key, and requests with it. -/
theorem meets_PsStoresWholeRequestsOrNothing :
    linkQuiet parked ∧ parked.sup.storeOp = .none ∧ (withStore parked (.saving factoryImage)).sup.storeOp ≠ .none
      ∧ psFields? ["VNOM".toList] = none ∧ isActive parked .sk = false ∧ isActive (active parked .sk) .sk = true
      ∧ psFields? ["EPM=100".toList] = some [.num .epm 100] ∧ keyNeeded (.num .epm 100) = true
      ∧ psFields? ["POL=HHHHHHHHHHHLLLLHHHHL".toList] = some [.pol (defaultPolarity.set 19 false)]
      ∧ keyNeeded (.pol (defaultPolarity.set 19 false)) = true
      ∧ psFields? ["HOLDLIM=99".toList, "AUTOCLASS=C".toList] = some [.num .holdlim 99, .autoClass .cup]
      ∧ (∀ w ∈ [ParamWrite.num .holdlim 99, .autoClass .cup], keyNeeded w = false) := by decide

/-- The settings that a request leaves, each with the branch of the checks that it takes. -/
theorem asWritten_of (old : Settings) (ws : List ParamWrite) (c : Settings)
    (h : (Param.all.all fun p => paramGet c p ==
      if p = .vmin then min (numberAfter old ws .vmin) (numberAfter old ws .vnom)
      else if p = .wresume then max (numberAfter old ws .wresume) (numberAfter old ws .wfloor)
      else numberAfter old ws p) = true)
    (hp : c.pol = (ws.findSome? polWritten?).getD old.pol)
    (hc : c.autoClass = (ws.findSome? autoClassWritten?).getD old.autoClass) : AsWritten old ws c :=
  ⟨fun p => eq_of_beq (List.all_eq_true.mp h p (by cases p <;> decide)), hp, hc⟩

/-- Section 1.5's zone write of three values together; a zone table that fails, and one with a position below 0. -/
theorem meets_PsStoresWholeRequestsOrNothing_zones :
    (let ws := [ParamWrite.num .xexit 7000, .num .d3e 7000, .num .finale 6900];
      let c := settingsAfter factorySettings ws;
      psFields? ["XEXIT=7000".toList, "D3E=7000".toList, "FINALE=6900".toList] = some ws
        ∧ AsWritten factorySettings ws c ∧ namesAny ws paramIsZone = true ∧ lineEmpty parked = true
        ∧ zoneTableValid c = true ∧ ws.any positionBelowZero = false)
    ∧ (let ws := [ParamWrite.num .d3e 7000];
      AsWritten factorySettings ws (settingsAfter factorySettings ws)
        ∧ zoneTableValid (settingsAfter factorySettings ws) = false)
    ∧ [ParamWrite.num .d1s (-1)].any positionBelowZero = true :=
  ⟨⟨by decide, asWritten_of _ _ _ (by decide) rfl rfl, by decide⟩,
    ⟨asWritten_of _ _ _ (by decide) rfl rfl, by decide⟩, by decide⟩

/-- A credit table that holds and one that does not; a TREF and a TRESUME without credit; a VMIN above VNOM; and a
WFLOOR above WRESUME. -/
theorem meets_PsStoresWholeRequestsOrNothing_credits :
    (creditTableValid (settingsAfter factorySettings [.num .ct4 830]) = true
      ∧ creditTableValid (settingsAfter factorySettings [.num .ct4 850]) = false
      ∧ credit (settingsAfter factorySettings [.num .tref 700]) 700 = 0
      ∧ credit (settingsAfter factorySettings [.num .tresume 700]) 700 = 0
      ∧ numberAfter factorySettings [.num .tresume 700] .tresume = 700)
    ∧ (let ws := [ParamWrite.num .vmin 900, .num .vnom 700];
      AsWritten factorySettings ws (settingsAfter factorySettings ws)
        ∧ paramGet (settingsAfter factorySettings ws) .vmin = 700)
    ∧ (let ws := [ParamWrite.num .wfloor 640];
      AsWritten factorySettings ws (settingsAfter factorySettings ws)
        ∧ paramGet (settingsAfter factorySettings ws) .wresume = 640) :=
  ⟨by decide, ⟨asWritten_of _ _ _ (by decide) rfl rfl, by decide⟩,
    asWritten_of _ _ _ (by decide) rfl rfl, by decide⟩

/-- The line in each of the states that the clauses tell apart. -/
theorem meets_GoSpAndCrMoveTheLine :
    (linkQuiet parked ∧ nobodyWaits parked = true ∧ parked.sup.mode = .parked ∧ lineEmpty parked = true
      ∧ 0 < par parked .runon ∧ parked.sup.draining = false)
    ∧ (let s := withList running [rackRecord none 0];
      linkQuiet s ∧ nobodyWaits s = true ∧ s.sup.mode = .run ∧ lineEmpty s = false ∧ s.sup.runOn = 0)
    ∧ (linkQuiet running ∧ running.sup.mode = .run ∧ lineEmpty running = true)
    ∧ (linkQuiet State.reset ∧ nobodyWaits State.reset = true ∧ State.reset.sup.mode = .loading
      ∧ State.reset.sup.storeOp = .loading .powerUp)
    ∧ (let s := withMode parked (.halt .estop);
      linkQuiet s ∧ nobodyWaits s = true ∧ s.sup.mode.isHalt = true ∧ s.sup.storeOp = .none
        ∧ isActive s .es = false ∧ isActive (active s .es) .es = true) :=
  ⟨⟨rfl, by decide, rfl, by decide, by decide, rfl⟩, ⟨rfl, by decide, rfl, by decide, rfl⟩, ⟨rfl, rfl, by decide⟩,
    ⟨rfl, by decide, rfl, rfl⟩, ⟨rfl, by decide, by decide, rfl, by decide⟩⟩

theorem reset_alertOutputRight : AlertOutputRight State.reset := by
  constructor
  · intro h; exact absurd h (by decide)
  · rintro ⟨k, h, -⟩; cases k <;> exact absurd h (by decide)

/-- Each invariant that a step keeps holds of the card right after reset, and a step of it answers a next state. -/
theorem meets_EveryStepKeepsTheBeltOutputs : OutputsFollow State.reset ∧ step State.reset = .next State.reset :=
  ⟨outputs_of_off _ (by decide), rfl⟩

theorem meets_EveryStepKeepsTheLimits : WithinLimits State.reset ∧ step State.reset = .next State.reset :=
  ⟨⟨by decide, by decide, by decide⟩, rfl⟩

theorem meets_EveryStepKeepsTheSerialsInSequence :
    OutboxSerialsRun { parked with outbox := { queue := [exampleRecord], nextSerial := 5022 } } := rfl

theorem meets_EveryStepKeepsWhatFollowsTheLine :
    AlertOutputRight State.reset ∧ BlocksFollowTheLine State.reset ∧ step State.reset = .next State.reset :=
  ⟨reset_alertOutputRight, ⟨by decide, by decide, by decide, fun b => by cases b <;> decide⟩, rfl⟩

theorem meets_EveryStepSettlesTheLine : Settled State.reset ∧ step State.reset = .next State.reset :=
  ⟨settled_of _ (by decide), rfl⟩

end Sys2Proof.Tests
end

section
/-! PROOFS. Reverse travel (section 1.2, R6 and R7), and what an event settles on a line in HALT. -/

namespace Sys2Proof.Proofs

open Sys2Proof.Machine Sys2Proof.Laws

/-! ## What an event settles in HALT -/

theorem modeAdmits_halt (s : State) (h : s.sup.mode.isHalt = true) : modeAdmits s = false := by
  cases hm : s.sup.mode <;> simp_all [LineMode.isHalt, modeAdmits]

theorem waitReason_not_admitting (s : State) (o : ReadOutcome) (h : modeAdmits s = false) :
    waitReason s o = some .mode := by
  simp [waitReason, h]

theorem autoEnrol_not_admitting (s : State) (o : ReadOutcome) (h : modeAdmits s = false) : autoEnrol s o = s := by
  cases o <;> simp [autoEnrol, h]

/-- In HALT a waiting rack can only come to wait for the mode (R33, R35), so deciding it again changes the stage
alone. -/
theorem reevaluate_halt (s : State) (h : s.sup.mode.isHalt = true) : ∃ g, reevaluate s = setStage s g := by
  have hm := modeAdmits_halt s h
  unfold reevaluate
  split
  case h_1 r o _ =>
    split
    · exact ⟨s.stage, rfl⟩
    · refine ⟨.waiting .mode o, ?_⟩
      rw [decideAdmission_waits s o .mode (waitReason_not_admitting s o hm) rfl, autoEnrol_not_admitting s o hm]
  all_goals exact ⟨s.stage, rfl⟩

theorem drainTest_halt (s : State) (h : s.sup.mode.isHalt = true) : drainTest s = s := by
  cases hm : s.sup.mode <;> simp_all [LineMode.isHalt, drainTest, drainEnds]

theorem runOnTest_halt (s : State) (h : s.sup.mode.isHalt = true) : runOnTest s = s := by
  cases hm : s.sup.mode <;> simp_all [LineMode.isHalt, runOnTest, runOnEnds]

/-- In HALT neither the drain test nor the run-on test parks the line (R161, R162): an event settles the stage and
the run-on count at most. -/
theorem settle_halt (s : State) (h : s.sup.mode.isHalt = true) :
    ∃ g, settle s = runOnWhileOccupied (setStage s g) := by
  obtain ⟨g, hg⟩ := reevaluate_halt s h
  have hh : (runOnWhileOccupied (setStage s g)).sup.mode.isHalt = true := by simp [h]
  exact ⟨g, by rw [settle, hg, drainTest_halt _ hh, runOnTest_halt _ hh]⟩

theorem settle_halt_frame (s : State) (h : s.sup.mode.isHalt = true) :
    (settle s).sup.mode = s.sup.mode ∧ (settle s).sup.alerts = s.sup.alerts ∧ (settle s).registry = s.registry := by
  obtain ⟨g, hg⟩ := settle_halt s h
  simp [hg]

/-! ## The halt that ends reverse travel -/

/-- A HALT request latches no alert but ESTOP's (R163). -/
theorem requestHalt_alerts (s : State) (cause : HaltCause) (h : cause ≠ .estop) :
    (requestHalt s cause).sup.alerts = s.sup.alerts := by
  simp only [requestHalt, if_neg h]
  split <;> simp

/-- The state with its reverse count replaced. -/
def atReverseCount (s : State) (n : Nat) : State := { s with belt := { s.belt with reverseCount := n } }

/-- What the reverse millimetre that brings the count to 50 leads to (R7). -/
def reverseHalt (s : State) : State :=
  settle (requestHalt (raise (atReverseCount s 50) .beltReverse none) .beltReverse)

theorem reverseHalt_belt (s : State) :
    (reverseHalt s).belt.reverseCount = 50 ∧ (reverseHalt s).belt.odometer = s.belt.odometer
      ∧ (reverseHalt s).belt.forwardAcc = s.belt.forwardAcc := by
  simp [reverseHalt, atReverseCount]

/-- The halt stands once the event is settled: the cause, the one alert raised, and no row of the registry changed. -/
theorem reverseHalt_settled (s : State) :
    (reverseHalt s).sup.mode = .halt .beltReverse
      ∧ (reverseHalt s).sup.alerts = (raise (atReverseCount s 50) .beltReverse none).sup.alerts
      ∧ (reverseHalt s).registry = s.registry := by
  obtain ⟨hhalt, -⟩ := requestHalt_mode (raise (atReverseCount s 50) .beltReverse none) .beltReverse
  obtain ⟨hmode, halerts, hregistry⟩ := settle_halt_frame _ (congrArg LineMode.isHalt hhalt)
  exact ⟨hmode.trans hhalt, halerts.trans (requestHalt_alerts _ _ (by decide)),
    hregistry.trans (by simp [atReverseCount])⟩

theorem reverseHalt_tunnel (s : State) :
    (reverseHalt s).tunnel = { s.tunnel with list := s.tunnel.list.map haltedRecord } := by
  obtain ⟨-, ht⟩ := requestHalt_mode (raise (atReverseCount s 50) .beltReverse none) .beltReverse
  calc (reverseHalt s).tunnel
      = (requestHalt (raise (atReverseCount s 50) .beltReverse none) .beltReverse).tunnel := by simp [reverseHalt]
    _ = { s.tunnel with list := s.tunnel.list.map haltedRecord } := ht

theorem reverseHalt_raised (s : State) : Raised s (reverseHalt s) .beltReverse s.belt.odometer none := by
  obtain ⟨-, halerts, -⟩ := reverseHalt_settled s
  have hraise : Raised s (raise (atReverseCount s 50) .beltReverse none) .beltReverse s.belt.odometer none :=
    raise_raised (atReverseCount s 50) .beltReverse none
  unfold Raised alert at hraise ⊢
  rw [halerts, hraise]

theorem reverseHalt_frame (s : State) :
    reverseHalt s = { s with
      belt := (reverseHalt s).belt, stage := (reverseHalt s).stage, tunnel := (reverseHalt s).tunnel
      pacing := (reverseHalt s).pacing, returns := (reverseHalt s).returns, tray := (reverseHalt s).tray
      sup := (reverseHalt s).sup } := by
  obtain ⟨-, -, hregistry⟩ := reverseHalt_settled s
  have hrest : (reverseHalt s).inputs = s.inputs ∧ (reverseHalt s).readers = s.readers
      ∧ (reverseHalt s).rinse = s.rinse ∧ (reverseHalt s).outbox = s.outbox ∧ (reverseHalt s).link = s.link
      ∧ (reverseHalt s).settings = s.settings ∧ (reverseHalt s).store = s.store
      ∧ (reverseHalt s).freeIndex = s.freeIndex ∧ (reverseHalt s).pending = s.pending := by
    simp [reverseHalt, atReverseCount]
  obtain ⟨hi, hrd, hri, ho, hl, hse, hst, hf, hp⟩ := hrest
  rw [← hi, ← hrd, ← hri, ← ho, ← hregistry, ← hl, ← hse, ← hst, ← hf, ← hp]

/-! ## Reverse millimetres -/

theorem reverseMillimetre_at_limit (s : State) (h : 50 ≤ s.belt.reverseCount) : reverseMillimetre s = s := by
  simp [reverseMillimetre, Config.reverseLimit, h]

theorem reverseMillimetre_below (s : State) (h : s.belt.reverseCount + 1 < 50) :
    reverseMillimetre s = atReverseCount s (s.belt.reverseCount + 1) := by
  have hlow : ¬ 50 ≤ s.belt.reverseCount := by omega
  simp [reverseMillimetre, Config.reverseLimit, atReverseCount, hlow, h.ne]

theorem reverseMillimetre_reaches (s : State) (h : s.belt.reverseCount = 49) :
    reverseMillimetre s = reverseHalt s := by
  simp [reverseMillimetre, Config.reverseLimit, reverseHalt, atReverseCount, h]

theorem reverseMillimetres_add (s : State) (m n : Nat) :
    reverseMillimetres s (m + n) = reverseMillimetres (reverseMillimetres s m) n := by
  induction m generalizing s with
  | zero => simp [reverseMillimetres]
  | succ m ih => rw [Nat.succ_add]; exact ih _

theorem reverseMillimetres_at_limit (s : State) (n : Nat) (h : 50 ≤ s.belt.reverseCount) :
    reverseMillimetres s n = s := by
  induction n with
  | zero => rfl
  | succ n ih => rw [reverseMillimetres, reverseMillimetre_at_limit s h, ih]

theorem reverseMillimetres_below (s : State) (n : Nat) (h : s.belt.reverseCount + n < 50) :
    reverseMillimetres s n = atReverseCount s (s.belt.reverseCount + n) := by
  induction n generalizing s with
  | zero => rfl
  | succ n ih =>
    rw [reverseMillimetres, reverseMillimetre_below s (by omega), ih _ (by simp only [atReverseCount]; omega)]
    simp only [atReverseCount, Nat.add_assoc, Nat.add_comm 1 n]

/-- From below 50 to 50 or beyond: the count rises to 49, the next millimetre halts the line, and those left of the
pulse are dropped. -/
theorem reverseMillimetres_reaches (s : State) (n : Nat) (hlow : s.belt.reverseCount < 50)
    (hn : 50 ≤ s.belt.reverseCount + n) : reverseMillimetres s n = reverseHalt s := by
  have hsplit : n = (49 - s.belt.reverseCount) + (1 + (n - (50 - s.belt.reverseCount))) := by omega
  have hto49 : reverseMillimetres s (49 - s.belt.reverseCount) = atReverseCount s 49 := by
    rw [reverseMillimetres_below s _ (by omega), Nat.add_sub_cancel' (by omega)]
  have hhalt : reverseMillimetres (atReverseCount s 49) 1 = reverseHalt s :=
    reverseMillimetre_reaches (atReverseCount s 49) rfl
  obtain ⟨hcount, -, -⟩ := reverseHalt_belt s
  rw [hsplit, reverseMillimetres_add, reverseMillimetres_add, hto49, hhalt]
  exact reverseMillimetres_at_limit _ _ hcount.ge

/-! ## The reverse pulse -/

/-- The state with a reverse pulse taken into the reverse accumulator, its millimetres still to be counted (R6). -/
def reverseCarried (s : State) : State :=
  { s with belt := { s.belt with reverseAcc := (s.belt.reverseAcc + 100) % par s .epm } }

theorem exec_reversePulse (s : State) :
    exec .reversePulse s =
      .next (reverseMillimetres (reverseCarried s) ((s.belt.reverseAcc + 100) / par s .epm)) := rfl

/-- Settles O9: the millimetres of one pulse keep the count below 50, find it at 50, or bring it to 50 and halt the
line. -/
theorem reverseTravelHaltsAtFifty : Obligations.ReverseTravelHaltsAtFifty := by
  intro s _
  rw [exec_reversePulse]
  refine ⟨?_, fun hlow hreach => ?_⟩
  · rintro (hat | hbelow)
    · rw [reverseMillimetres_at_limit (reverseCarried s) _ hat.ge, hat, Nat.min_eq_left (Nat.le_add_right ..), ← hat]
      rfl
    · rw [reverseMillimetres_below (reverseCarried s) _ hbelow, Nat.min_eq_right hbelow.le]
      rfl
  · obtain ⟨hcount, hodometer, hforward⟩ := reverseHalt_belt (reverseCarried s)
    obtain ⟨hmode, -, -⟩ := reverseHalt_settled (reverseCarried s)
    exact ⟨reverseHalt (reverseCarried s), congrArg _ (reverseMillimetres_reaches (reverseCarried s) _ hlow hreach),
      hcount, hodometer, hforward, reverseHalt_raised (reverseCarried s), hmode,
      reverseHalt_tunnel (reverseCarried s), reverseHalt_frame (reverseCarried s)⟩

end Sys2Proof.Proofs
end

section
/-! PROOFS. The credit table (section 5.2, R75 and R76): the broken line that a valid table draws. -/

namespace Sys2Proof.Proofs

open Sys2Proof.Machine Sys2Proof.Laws

/-! ## The broken line through a list of points -/

theorem creditAlong_band {t : Nat} {q : Nat × Nat} (p : Nat × Nat) (rest : List (Nat × Nat)) (h : t < q.1) :
    creditAlong t (p :: q :: rest) = p.2 + (q.2 - p.2) * (t - p.1) / (q.1 - p.1) := if_pos h

theorem creditAlong_next {t : Nat} {q : Nat × Nat} (p : Nat × Nat) (rest : List (Nat × Nat)) (h : q.1 ≤ t) :
    creditAlong t (p :: q :: rest) = creditAlong t (q :: rest) := if_neg h.not_gt

/-- Of the points that T has reached only the last one counts. -/
theorem creditAlong_append {t : Nat} {p : Nat × Nat} (pre rest : List (Nat × Nat)) (hp : p.1 ≤ t)
    (hpre : ∀ q ∈ pre, q.1 ≤ t) : creditAlong t (pre ++ p :: rest) = creditAlong t (p :: rest) := by
  induction pre with
  | nil => rfl
  | cons x pre ih =>
    obtain ⟨-, hpre⟩ := List.forall_mem_cons.mp hpre
    cases pre with
    | nil => exact creditAlong_next x rest hp
    | cons y pre => exact (creditAlong_next x _ (hpre y List.mem_cons_self)).trans (ih hpre)

/-- Within a band the truncated share of the rise is at most the whole rise. -/
theorem band_share_le {t t0 t1 : Nat} (d : Nat) (h : t < t1) : d * (t - t0) / (t1 - t0) ≤ d :=
  Nat.div_le_of_le_mul <| calc
    d * (t - t0) ≤ d * (t1 - t0) := Nat.mul_le_mul_left d (Nat.sub_le_sub_right h.le t0)
    _ = (t1 - t0) * d := Nat.mul_comm ..

/-- A bound of all the points' credits bounds the line between them. -/
theorem creditAlong_le {t m : Nat} {points : List (Nat × Nat)} (h : ∀ p ∈ points, p.2 ≤ m) :
    creditAlong t points ≤ m := by
  induction points with
  | nil => exact Nat.zero_le m
  | cons p points ih =>
    obtain ⟨hp, hpoints⟩ := List.forall_mem_cons.mp h
    cases points with
    | nil => exact hp
    | cons q rest =>
      rcases lt_or_ge t q.1 with hlt | hge
      · have hq : q.2 ≤ m := hpoints q List.mem_cons_self
        have hshare := band_share_le (t0 := p.1) (q.2 - p.2) hlt
        rw [creditAlong_band p rest hlt]
        omega
      · rw [creditAlong_next p rest hge]
        exact ih hpoints

/-! ## A valid table -/

/-- From one point of the table to a later one the temperature ascends and the credit does not fall (R76). -/
def RisesTo (p q : Nat × Nat) : Prop := p.1 < q.1 ∧ p.2 ≤ q.2

theorem RisesTo.trans {p q r : Nat × Nat} (hpq : RisesTo p q) (hqr : RisesTo q r) : RisesTo p r :=
  ⟨hpq.1.trans hqr.1, hpq.2.trans hqr.2⟩

theorem creditTableValid_iff (c : Settings) : creditTableValid c = true ↔ (creditPoints c).IsChain RisesTo := by
  simp only [creditTableValid, creditPoints, RisesTo, Bool.and_eq_true, decide_eq_true_eq, List.isChain_cons_cons,
    List.isChain_singleton]
  tauto

/-- Every earlier point of a valid table rises to a given one, not its neighbour alone. -/
theorem risesTo_of_mem_before {c : Settings} {p q : Nat × Nat} {pre rest : List (Nat × Nat)}
    (h : creditTableValid c = true) (hpoints : creditPoints c = pre ++ p :: rest) (hq : q ∈ pre) : RisesTo q p := by
  have : Trans RisesTo RisesTo RisesTo := ⟨RisesTo.trans⟩
  have hpairs := ((creditTableValid_iff c).mp h).pairwise
  rw [hpoints, List.pairwise_append] at hpairs
  obtain ⟨-, -, hcross⟩ := hpairs
  exact hcross q hq p List.mem_cons_self

/-! ## The credit over a valid table -/

theorem credit_below_first (c : Settings) (t : Nat) (h : t < paramGet c .ct1) : credit c t = 0 := if_pos h

theorem credit_from_first (c : Settings) (t : Nat) (h : paramGet c .ct1 ≤ t) :
    credit c t = creditAlong t (creditPoints c) := if_neg h.not_gt

/-- Once T has reached a point of a valid table, it has reached T1 and all between, so that the credit is the line's
from that point on. -/
theorem credit_from_point {c : Settings} {t : Nat} {p : Nat × Nat} {pre rest : List (Nat × Nat)}
    (h : creditTableValid c = true) (hpoints : creditPoints c = pre ++ p :: rest) (hp : p.1 ≤ t) :
    credit c t = creditAlong t (p :: rest) := by
  have hpre : ∀ q ∈ pre, q.1 ≤ t := fun q hq => (risesTo_of_mem_before h hpoints hq).1.le.trans hp
  have hfirst : paramGet c .ct1 ≤ t := by
    cases pre with
    | nil => obtain ⟨rfl, -⟩ := List.cons.inj hpoints; exact hp
    | cons x pre => obtain ⟨rfl, -⟩ := List.cons.inj hpoints; exact hpre _ List.mem_cons_self
  rw [credit_from_first c t hfirst, hpoints, creditAlong_append pre rest hp hpre]

/-- Between two neighbouring points (R75). -/
theorem credit_in_band {c : Settings} {t : Nat} {p q : Nat × Nat} (h : creditTableValid c = true)
    (hpoints : [p, q] <:+: creditPoints c) (hp : p.1 ≤ t) (hq : t < q.1) :
    credit c t = p.2 + (q.2 - p.2) * (t - p.1) / (q.1 - p.1) := by
  obtain ⟨pre, post, hsplit⟩ := hpoints
  have hpoints : creditPoints c = pre ++ p :: q :: post := by simp [← hsplit]
  rw [credit_from_point h hpoints hp, creditAlong_band p post hq]

theorem creditPoints_eq_append_last (c : Settings) :
    creditPoints c = (creditPoints c).dropLast ++ [(paramGet c .ct6, paramGet c .cc6)] := rfl

theorem credit_from_last {c : Settings} {t : Nat} (h : creditTableValid c = true) (ht : paramGet c .ct6 ≤ t) :
    credit c t = paramGet c .cc6 :=
  credit_from_point h (creditPoints_eq_append_last c) ht

theorem credit_le_last {c : Settings} (t : Nat) (h : creditTableValid c = true) : credit c t ≤ paramGet c .cc6 := by
  rcases lt_or_ge t (paramGet c .ct1) with hlt | hge
  · exact (credit_below_first c t hlt).trans_le (Nat.zero_le _)
  · rw [credit_from_first c t hge]
    refine creditAlong_le fun p hp => ?_
    rw [creditPoints_eq_append_last, List.mem_append, List.mem_singleton] at hp
    rcases hp with hbefore | rfl
    · exact (risesTo_of_mem_before h (creditPoints_eq_append_last c) hbefore).2
    · exact le_rfl

/-- Settles O29: each band of the statement is a pair of neighbouring points of the table. -/
theorem creditFollowsTheTable : Obligations.CreditFollowsTheTable := by
  intro c t h hmax
  refine ⟨credit_below_first c t, credit_from_last h, fun b hb => ?_, (credit_le_last t h).trans hmax⟩
  have hneighbours :
      [(paramGet c b.1, paramGet c b.2.1), (paramGet c b.2.2.1, paramGet c b.2.2.2)] <:+: creditPoints c := by
    simp only [List.mem_cons, List.not_mem_nil, or_false] at hb
    rcases hb with rfl | rfl | rfl | rfl | rfl
    · exact ⟨(creditPoints c).take 0, (creditPoints c).drop 2, rfl⟩
    · exact ⟨(creditPoints c).take 1, (creditPoints c).drop 3, rfl⟩
    · exact ⟨(creditPoints c).take 2, (creditPoints c).drop 4, rfl⟩
    · exact ⟨(creditPoints c).take 3, (creditPoints c).drop 5, rfl⟩
    · exact ⟨(creditPoints c).take 4, (creditPoints c).drop 6, rfl⟩
  exact credit_in_band h hneighbours

end Sys2Proof.Proofs
end

section
/-! PROOFS. The doors (section 6.1, R92 and R99), and the run output through what an event settles. -/

namespace Sys2Proof.Proofs

open Sys2Proof.Machine Sys2Proof.Laws

/-! ## The run output (R94) through what an event settles -/

/-- The run output agrees with the mode and the hold set (R94): the invariant that settling an event keeps. -/
def RunFollows (s : State) : Prop := s.pacing.beltRun = beltShouldRun s

/-- The agreement rests on the pacing controller, the causes of the rinse monitor and the mode alone. -/
theorem RunFollows.of_same {s t : State} (h : RunFollows s) (hpacing : t.pacing = s.pacing)
    (hrinse : t.rinse = s.rinse) (hmode : t.sup.mode = s.sup.mode) : RunFollows t := by
  unfold RunFollows beltShouldRun holdSetEmpty at h ⊢
  rw [hpacing, hrinse, hmode, h]

theorem RunFollows.stands {s : State} (h : RunFollows s) (hheld : holdSetEmpty s = false) :
    s.pacing.beltRun = false := by
  rw [h, beltShouldRun, hheld, Bool.and_false]

theorem holdsChanged_runFollows (before s : State) : RunFollows (holdsChanged before s) := by
  unfold RunFollows holdsChanged
  rw [recomputeBelt_beltRun]
  simp [beltShouldRun, holdSetEmpty]

theorem changeMode_runFollows (s : State) (m : LineMode) : RunFollows (changeMode s m) := by
  unfold RunFollows
  rw [changeMode_beltRun, beltShouldRun, changeMode_sup]
  simp [holdSetEmpty]

theorem admitRack_runFollows {s : State} (o : ReadOutcome) (h : RunFollows s) : RunFollows (admitRack s o) := by
  unfold admitRack wake
  dsimp only
  split
  case isTrue => exact changeMode_runFollows _ _
  case isFalse => exact h.of_same (by simp) (by simp) (by simp)

theorem decideAdmission_runFollows {s : State} (o : ReadOutcome) (h : RunFollows s) :
    RunFollows (decideAdmission s o) := by
  have henrol : RunFollows (autoEnrol s o) := h.of_same (by simp) (by simp) (by simp)
  rcases decideAdmission_cases s o with ⟨-, hadmit⟩ | ⟨r, -, hwait⟩
  · rw [hadmit]
    exact admitRack_runFollows o henrol
  · rw [hwait]
    split
    case isTrue => exact henrol.of_same rfl rfl rfl
    case isFalse => exact henrol.of_same rfl rfl rfl

theorem reevaluate_runFollows {s : State} (h : RunFollows s) : RunFollows (reevaluate s) := by
  unfold reevaluate
  split
  case h_1 r o _ =>
    split
    case isTrue => exact h
    case isFalse => exact decideAdmission_runFollows o h
  all_goals exact h

theorem drainTest_runFollows {s : State} (h : RunFollows s) : RunFollows (drainTest s) := by
  unfold drainTest
  split
  case isTrue => exact reevaluate_runFollows (changeMode_runFollows _ _)
  case isFalse => exact h

theorem runOnTest_runFollows {s : State} (h : RunFollows s) : RunFollows (runOnTest s) := by
  unfold runOnTest
  split
  case isTrue => exact reevaluate_runFollows (changeMode_runFollows _ _)
  case isFalse => exact h

theorem settle_runFollows {s : State} (h : RunFollows s) : RunFollows (settle s) :=
  runOnTest_runFollows
    (drainTest_runFollows ((reevaluate_runFollows h).of_same (by simp) (by simp) (by simp)))

/-! ## A change of a door switch -/

/-- The state with the filtered state of a door's switch turned over, its owner not yet told (R17). -/
def doorTurned (s : State) (d : Door) : State :=
  setChannel s (doorInput d) (filterTurned (channel s (doorInput d)))

theorem doorTurned_inputs (s : State) (d : Door) : (doorTurned s d).inputs = inputsTurned s (doorInput d) := rfl

@[simp] theorem doorTurned_frame (s : State) (d : Door) :
    (doorTurned s d).readers = s.readers ∧ (doorTurned s d).tunnel = s.tunnel ∧ (doorTurned s d).rinse = s.rinse
      ∧ (doorTurned s d).outbox = s.outbox ∧ (doorTurned s d).link = s.link := by
  simp [doorTurned]

/-- Where a record's centre stands does not rest on the inputs. -/
theorem inDoorSpan_doorTurned (s : State) (d : Door) : inDoorSpan (doorTurned s d) d = inDoorSpan s d := by
  cases d <;> rfl

/-- The event of a door's switch goes to the pacing controller (R20, R92), and is settled. -/
theorem exec_filterTimeReached_door {s : State} (d : Door) (h : (channel s (doorInput d)).qualifying = true) :
    exec (.filterTimeReached (doorInput d)) s =
      .next (settle (doorChange (doorTurned s d) d (!(channel s (doorInput d)).filtered))) := by
  change execFilterTimeReached (doorInput d) s = _
  rw [execFilterTimeReached, if_pos h]
  cases d <;> rfl

theorem doorChange_runFollows (s : State) (d : Door) (isOpen : Bool) : RunFollows (doorChange s d isOpen) := by
  cases isOpen <;> exact holdsChanged_runFollows s _

theorem doorChange_opens (s : State) (d : Door) :
    (doorChange s d true).pacing.doorCause = true
      ∧ (doorChange s d true).tunnel = { s.tunnel with
          list := s.tunnel.list.map fun r =>
            if inDoorSpan s d r then { r with flags := { r.flags with door := true } } else r } := by
  simp [doorChange, flagRecords]

theorem doorChange_closes (s : State) (d : Door) :
    (doorChange s d false).pacing.doorCause = (isActive s .d1 || isActive s .d2 || isActive s .d3)
      ∧ (doorChange s d false).tunnel = s.tunnel := by
  simp [doorChange]

/-- An open door holds the belt, whatever the event settles: a waiting rack that wakes the line does not start it
(R94, R160). -/
theorem settle_doorOpens_stands (s : State) (d : Door) :
    (settle (doorChange s d true)).pacing.beltRun = false := by
  obtain ⟨hcause, -⟩ := doorChange_opens s d
  exact (settle_runFollows (doorChange_runFollows s d true)).stands (by simp [holdSetEmpty, hcause])

/-- Settles O13: the change of the door switch sets the cause and the flags, and settling it changes neither. -/
theorem doorsHoldTheBeltAndFlagTheRacks : Obligations.DoorsHoldTheBeltAndFlagTheRacks := by
  intro d s
  constructor
  · rintro ⟨hqualifying, hclosed⟩
    obtain ⟨hcause, htunnel⟩ := doorChange_opens (doorTurned s d) d
    rw [exec_filterTimeReached_door d hqualifying, hclosed, Bool.not_false]
    refine ⟨_, rfl, ?_, ?_, settle_doorOpens_stands _ d, ?_, ?_⟩
    · simp [doorTurned_inputs]
    · simp [hcause]
    · simp [htunnel, inDoorSpan_doorTurned]
    · simp
  · rintro ⟨hqualifying, hopen⟩
    obtain ⟨hcause, htunnel⟩ := doorChange_closes (doorTurned s d) d
    rw [exec_filterTimeReached_door d hqualifying, hopen, Bool.not_true]
    refine ⟨_, rfl, ?_, ?_, ?_⟩
    · simp [doorTurned_inputs]
    · simp [hcause, isActive, channel]
    · simp [htunnel]

end Sys2Proof.Proofs
end

section
/-! PROOFS. The return end eye (section 9.4, R142): the oldest entry past eye 4. -/

namespace Sys2Proof.Proofs

open Sys2Proof.Machine Sys2Proof.Laws

/-! ## The oldest entry past an eye -/

/-- The first entry with the last-eye that an eye looks for stands where the older ones end (R140, R142). -/
theorem oldestAt_append {s : State} {eye : Nat} {before after : List EnRoute} {e : EnRoute}
    (hlist : s.returns.enRoute = before ++ e :: after) (holder : ∀ x ∈ before, x.lastEye ≠ eye)
    (heye : e.lastEye = eye) : oldestAt s eye = some before.length := by
  have hbefore : before.findIdx? (fun x => x.lastEye == eye) = none :=
    List.findIdx?_eq_none_iff.mpr fun x hx => beq_false_of_ne (holder x hx)
  simp [oldestAt, hlist, hbefore, List.findIdx?_cons, heye]

theorem oldestAt_eq_none {s : State} {eye : Nat} (hnone : ∀ x ∈ s.returns.enRoute, x.lastEye ≠ eye) :
    oldestAt s eye = none :=
  List.findIdx?_eq_none_iff.mpr fun x hx => beq_false_of_ne (hnone x hx)

theorem removeEntry_append {s : State} {before after : List EnRoute} {e : EnRoute}
    (hlist : s.returns.enRoute = before ++ e :: after) :
    removeEntry s before.length = { s with returns := { s.returns with enRoute := before ++ after } } := by
  simp [removeEntry, hlist, List.eraseIdx_append_of_length_le]

/-- A place set changes the registry alone (R118). -/
theorem setPlaceOf_eq (s : State) (rack : Option Rack) (p : Place) :
    setPlaceOf s rack p = { s with registry := (setPlaceOf s rack p).registry } := by
  cases rack with
  | none => rfl
  | some r =>
    simp only [setPlaceOf, setPlace]
    split <;> rfl

/-! ## The event of the eye -/

/-- The state with the return end eye's channel turned over, the dispatcher not yet told (R17). -/
def returnEndTurned (s : State) : State := { s with inputs := inputsTurned s .re }

/-- The dispatcher hears of the eye with its channel turned over, and acts on a blocked eye only (R17, R20, R142). -/
theorem exec_filterTimeReached_returnEnd {s : State} (h : (channel s .re).qualifying = true) :
    exec (.filterTimeReached .re) s = .next
      (if (channel s .re).filtered then returnEndTurned s else returnEndBlocked (returnEndTurned s)) := by
  change execFilterTimeReached .re s = _
  rw [execFilterTimeReached, if_pos h]
  cases (channel s .re).filtered <;> rfl

theorem returnEndBlocked_takes {s : State} {before after : List EnRoute} {e : EnRoute}
    (hlist : s.returns.enRoute = before ++ e :: after) (holder : ∀ x ∈ before, x.lastEye ≠ 4)
    (heye : e.lastEye = 4) :
    returnEndBlocked s = setPlaceOf (removeEntry s before.length) e.rack .atReturnEnd := by
  have hentry : s.returns.enRoute[before.length]? = some e := by simp [hlist]
  simp only [returnEndBlocked, oldestAt_append hlist holder heye, hentry]

theorem returnEndBlocked_stray {s : State} (hnone : ∀ x ∈ s.returns.enRoute, x.lastEye ≠ 4) :
    returnEndBlocked s = raise s .returnStray none := by
  simp only [returnEndBlocked, oldestAt_eq_none hnone]

/-- Settles O38: the eye finds the oldest entry by its position, and turning the eye's channel moves no entry. -/
theorem returnEndEyeTakesTheOldestEntry : Obligations.ReturnEndEyeTakesTheOldestEntry := by
  intro s
  refine ⟨?takes, ?stray, ?clear⟩
  case takes =>
    rintro ⟨hqualifying, hclear⟩ before after e hlist holder heye
    have hturned : (returnEndTurned s).returns.enRoute = before ++ e :: after := hlist
    rw [exec_filterTimeReached_returnEnd hqualifying, hclear, returnEndBlocked_takes hturned holder heye,
      removeEntry_append hturned]
    exact ⟨_, rfl, setPlaceOf_onlyPlaced _ _ _, setPlaceOf_eq _ _ _⟩
  case stray =>
    rintro ⟨hqualifying, hclear⟩ hnone
    have hturned : ∀ x ∈ (returnEndTurned s).returns.enRoute, x.lastEye ≠ 4 := hnone
    rw [exec_filterTimeReached_returnEnd hqualifying, hclear, returnEndBlocked_stray hturned]
    exact ⟨_, rfl, raise_raised (returnEndTurned s) _ _, rfl⟩
  case clear =>
    rintro ⟨hqualifying, hblocked⟩
    rw [exec_filterTimeReached_returnEnd hqualifying, if_pos hblocked, returnEndTurned]

end Sys2Proof.Proofs
end

section
/-! PROOFS. The moves of the card: the small changes that the events are made of. What an invariant needs is that every
move keeps it. -/

namespace Sys2Proof.Proofs

open Sys2Proof.Machine Sys2Proof.Laws

/-- The records that the tunnel block holds, the check among them (R110). -/
def tunnelCount (t : Tunnel) : Nat := t.list.length + countOf t.slot

/-- The state with its encoder-stall timer replaced. -/
def atTimer (s : State) (x : EncoderTimer) : State := { s with belt := { s.belt with timer := x } }

/-- One small change of the state, with what the rules ask of the state that it is made in. -/
inductive Move (s : State) : State → Prop
  /-- Every block takes its power-up state (R158). -/
  | powerUp (inputs : Vector InputChannel 20) (link : Link) (serial : Nat)
      (hinputs : ∀ i : Input, inputs[i.index].filtered = false) :
      Move s { State.reset with
        inputs := inputs, link := link, outbox := { queue := [], nextSerial := serial }, store := s.store,
        freeIndex := s.freeIndex, pending := s.pending }
  | lineReset : Move s (lineReset s)
  /-- A stage that takes no new pending admission. -/
  | stage (g : Stage) (h : countOf g.pending? ≤ countOf s.stage.pending?) : Move s (setStage s g)
  /-- A new pending admission, for which the tunnel list and the reservation have room (R33). -/
  | pending (p : Pending) (n : Nat) (held : Option ReadOutcome) (hlist : s.tunnel.list.length < 16)
      (hroom : reservation s < 96) : Move s (setStage s (.admitting p n held))
  /-- The pending admission becomes a tunnel record (R38). -/
  | enter (r : TunnelRecord) (h : s.stage.pending?.isSome = true) :
      Move s (setStage (appendTunnelRecord s r) .reading)
  /-- A tunnel record that no admission was pending for (R41). -/
  | force (r : TunnelRecord) (hstage : s.stage.pending? = none) (hlist : s.tunnel.list.length < 16)
      (hroom : reservation s + 1 ≤ 96) : Move s (appendTunnelRecord s r)
  /-- The tunnel records changed, moved or given up; none joins. -/
  | tunnel (t : Tunnel) (hlist : t.list.length ≤ s.tunnel.list.length)
      (hcount : tunnelCount t ≤ tunnelCount s.tunnel) : Move s { s with tunnel := t }
  /-- An EXTRA record (R52). -/
  | extra (k : ExitRecord) (h : reservation s + 1 ≤ 96) : Move s (setSlot s (some k))
  /-- A record leaves the tunnel block, and its wash record joins the outbox (R108, R109). -/
  | file (t : Tunnel) (w : WashRecord) (hlist : t.list.length ≤ s.tunnel.list.length)
      (hcount : tunnelCount t + 1 ≤ tunnelCount s.tunnel) (hserial : w.serial = s.outbox.nextSerial) :
      Move s (appendRecord { s with tunnel := t } w)
  | take (n : Nat) : Move s (dropRecords s n)
  | registry (g : Registry) : Move s { s with registry := g }
  | readers (r : Readers) : Move s { s with readers := r }
  | alerts (a : Vector (Option Latched) 20) (m : Vector Bool 20) :
      Move s (refreshAlertOutput { s with sup := { s.sup with alerts := a, mask := m } })
  | counts (draining : Bool) (runOn : Nat) (op : StoreOp) (last : SaveResult) :
      Move s { s with sup := { s.sup with draining := draining, runOn := runOn, storeOp := op, lastSave := last } }
  | mode (m : LineMode) : Move s (changeMode s m)
  /-- Another cause for a halted line (R163). -/
  | cause (c : HaltCause) (h : s.sup.mode.isHalt = true) :
      Move s { s with sup := { s.sup with mode := .halt c } }
  /-- The expiry of the encoder-stall timer with the halt that it requests (R9). -/
  | encoder (n : Nat) (h : s.belt.timer = .running n) : Move s (changeMode (atTimer s .expired) (.halt .encStall))
  /-- The causes of the hold set changed (R90, R94, R98). -/
  | holds (exit door pause : Bool) (rinse : Rinse) :
      Move s (holdsChanged s { s with
        rinse := rinse
        pacing := { s.pacing with exitCause := exit, doorCause := door, pauseCause := pause } })
  | demand (d : Nat) : Move s (setDemand s d)
  | cycle (c : PollCycle) : Move s { s with rinse := { s.rinse with cycle := c } }
  /-- The encoder's counts, and its timer as it goes on (R8). -/
  | belt (b : Belt) (hidle : s.belt.timer = .idle → b.timer = .idle)
      (hrun : s.sup.mode = .run → ∀ n, s.belt.timer = .running n → ∃ m, b.timer = .running m) :
      Move s { s with belt := b }
  | stall (x : StallTimer) (h : s.pacing.stallTimer = .idle → x = .idle) :
      Move s { s with pacing := { s.pacing with stallTimer := x } }
  /-- The return belt's lists: the en-route list does not grow beyond 24 (R136). -/
  | returns (stations : Vector StationEntry 4) (l : List EnRoute) (p : Pointers)
      (h : l.length ≤ s.returns.enRoute.length ∨ l.length ≤ 24) :
      Move s { s with returns := { s.returns with stations := stations, enRoute := l, pointers := p } }
  /-- Diverters, which stay OFF in HALT (R141). -/
  | diverters (v : Vector Diverter 4)
      (h : s.sup.mode.isHalt = true → (∀ k : Station, s.returns.diverters[k] = .off) → ∀ k : Station, v[k] = .off) :
      Move s { s with returns := { s.returns with diverters := v } }
  /-- Tray belts that neither stop for the line nor start again. -/
  | trays (y : Tray) (hheld : y.lineHeld = s.tray.lineHeld)
      (hnorth : y.north.state = .stoppedLine ↔ s.tray.north.state = .stoppedLine)
      (hsouth : y.south.state = .stoppedLine ↔ s.tray.south.state = .stoppedLine) : Move s { s with tray := y }
  | inputs (v : Vector InputChannel 20) (h : v[Input.rf.index].filtered = isActive s .rf) :
      Move s { s with inputs := v }
  /-- RETURN END FULL turns over, and the return belt with it (R145). -/
  | returnEndFull (v : Vector InputChannel 20) : Move s (recomputeReturnBelt { s with inputs := v })
  | link (l : Link) : Move s { s with link := l }
  | settings (c : Settings) : Move s { s with settings := c }
  | store (x : StoreContents) (n : Nat) : Move s { s with store := x, freeIndex := n }

/-- Moves one after the other. -/
abbrev Moves : State → State → Prop := Relation.ReflTransGen Move

theorem Move.moves {s t : State} (h : Move s t) : Moves s t := .single h

/-- What every move keeps, moves one after the other keep. -/
theorem Moves.keep {P : State → Prop} (hP : ∀ {s t : State}, Move s t → P s → P t) {s t : State} (h : Moves s t) :
    P s → P t := by
  induction h with
  | refl => exact id
  | tail _ hmove ih => exact fun hs => hP hmove (ih hs)

/-! ## The shared operations -/

theorem setReader_moves (s : State) (r : Reader) (c : ReaderChannel) : Moves s (setReader s r c) := by
  cases r <;> exact .single (.readers _)

theorem startRead_moves (s : State) (r : Reader) : Moves s (startRead s r) := by
  unfold startRead
  split
  · exact setReader_moves s r _
  · exact .refl

theorem requestRead_moves (s : State) (r : Reader) : Moves s (requestRead s r) := by
  unfold requestRead
  split
  · exact startRead_moves s r
  · exact .refl

theorem setRow_moves (s : State) (n : Rack) (w : Option Row) : Moves s (setRow s n w) := .single (.registry _)

theorem setPlace_moves (s : State) (n : Rack) (p : Place) : Moves s (setPlace s n p) := by
  unfold setPlace
  split
  · exact setRow_moves s n _
  · exact .refl

theorem setPlaceOf_moves (s : State) (n : Option Rack) (p : Place) : Moves s (setPlaceOf s n p) := by
  cases n with
  | none => exact .refl
  | some n => exact setPlace_moves s n p

theorem removeEnRoute_moves (s : State) (n : Rack) : Moves s (removeEnRoute s n) :=
  .single (.returns _ _ _ (.inl (List.length_filter_le _ _)))

theorem removeEnRouteOf_moves (s : State) (n : Option Rack) : Moves s (removeEnRouteOf s n) := by
  cases n with
  | none => exact .refl
  | some n => exact removeEnRoute_moves s n

theorem raiseMarked_moves (s : State) (k : AlertKind) (rack : Option Rack) (u : Bool) :
    Moves s (raiseMarked s k rack u) := .single (.alerts _ s.sup.mask)

theorem raise_moves (s : State) (k : AlertKind) (rack : Option Rack) : Moves s (raise s k rack) :=
  raiseMarked_moves s k rack false

theorem clearAlerts_moves (s : State) (kinds : List AlertKind) : Moves s (clearAlerts s kinds) :=
  .single (.alerts _ s.sup.mask)

theorem setMask_moves (s : State) (m : Vector Bool 20) : Moves s (setMask s m) :=
  .single (.alerts s.sup.alerts m)

theorem setRunOn_moves (s : State) (n : Nat) : Moves s { s with sup := { s.sup with runOn := n } } :=
  .single (.counts s.sup.draining n s.sup.storeOp s.sup.lastSave)

theorem setDraining_moves (s : State) (b : Bool) : Moves s { s with sup := { s.sup with draining := b } } :=
  .single (.counts b s.sup.runOn s.sup.storeOp s.sup.lastSave)

/-- A change of every record of the list in its place. -/
theorem mapRecords_moves (s : State) (f : TunnelRecord → TunnelRecord) :
    Moves s { s with tunnel := { s.tunnel with list := s.tunnel.list.map f } } :=
  .single (.tunnel _ (by simp) (by simp [tunnelCount]))

theorem flagRecords_moves (s : State) (which : TunnelRecord → Bool) (flag : Flags → Flags) :
    Moves s (flagRecords s which flag) := mapRecords_moves s _

theorem setLamp_moves (s : State) (x : Lamp) : Moves s { s with tunnel := { s.tunnel with lamp := x } } :=
  .single (.tunnel _ le_rfl le_rfl)

theorem changeSlot_moves (s : State) (f : ExitRecord → ExitRecord) : Moves s (changeSlot s f) :=
  .single (.tunnel _ le_rfl (by simp [tunnelCount, countOf]))

theorem requestHalt_moves (s : State) (cause : HaltCause) : Moves s (requestHalt s cause) := by
  have hraise : ∀ t : State, Moves t (if cause = .estop then raise t .estop none else t)
      ∧ (if cause = .estop then raise t .estop none else t).sup.mode = t.sup.mode := by
    intro t
    split
    · exact ⟨raise_moves t _ _, rfl⟩
    · exact ⟨.refl, rfl⟩
  obtain ⟨hmoves, hmode⟩ := hraise (flagRecords s (fun _ => true) fun f => { f with halted := true })
  have hstart := (flagRecords_moves s _ _).trans hmoves
  unfold requestHalt
  by_cases h : s.sup.mode.isHalt = true
  · rw [if_pos h]
    exact hstart.tail (.cause cause (hmode ▸ h))
  · rw [if_neg h]
    exact hstart.tail (.mode _)

theorem wake_moves (s : State) : Moves s (wake s) := by
  unfold wake
  split
  · exact .single (.mode _)
  · exact .refl

/-! ## The closings (chapter 4) -/

theorem updateCounted_moves (s : State) (w : WashRecord) : Moves s (updateCounted s w) := by
  unfold updateCounted
  split
  · exact .refl
  · split
    · exact .refl
    · exact setRow_moves s _ _

/-- A record leaves the tunnel block and is filed (R63). -/
theorem fileRecord_moves {s : State} (t : Tunnel) (w : WashRecord) (hlist : t.list.length ≤ s.tunnel.list.length)
    (hcount : tunnelCount t + 1 ≤ tunnelCount s.tunnel) (hserial : w.serial = s.outbox.nextSerial) :
    Moves s (fileRecord { s with tunnel := t } w) :=
  .head (.file t w hlist hcount hserial) (updateCounted_moves _ w)

theorem missingFiled_moves (s : State) (rack : Option Rack) : Moves s (missingFiled s rack) :=
  (raise_moves s _ rack).trans (setPlaceOf_moves _ rack _)

theorem closeMissing_moves {s : State} (t : Tunnel) (r : TunnelRecord)
    (hlist : t.list.length ≤ s.tunnel.list.length) (hcount : tunnelCount t + 1 ≤ tunnelCount s.tunnel) :
    Moves s (closeMissing { s with tunnel := t } r) :=
  (fileRecord_moves t _ hlist hcount rfl).trans (missingFiled_moves _ _)

theorem giveUpTunnelRecord_moves (s : State) (n : Rack) : Moves s (giveUpTunnelRecord s n) := by
  unfold giveUpTunnelRecord
  split
  case h_1 => exact .refl
  case h_2 r hfind =>
    have hlen := List.length_eraseP_of_mem (List.mem_of_find?_eq_some hfind) (List.find?_some hfind)
    have hpos := List.length_pos_of_mem (List.mem_of_find?_eq_some hfind)
    refine closeMissing_moves _ r ?_ ?_
    · exact hlen.trans_le (Nat.sub_le _ _)
    · simp only [tunnelCount, hlen]; omega

/-! ## Rows and records apart from the other blocks -/

/-- The state with its tunnel block replaced. -/
def atTunnel (s : State) (t : Tunnel) : State := { s with tunnel := t }

theorem setPlaceOf_atTunnel (s : State) (t : Tunnel) (n : Option Rack) (p : Place) :
    setPlaceOf (atTunnel s t) n p = atTunnel (setPlaceOf s n p) t := by
  cases n with
  | none => rfl
  | some n =>
    have hrow : row (atTunnel s t) n = row s n := rfl
    simp only [setPlaceOf, setPlace, hrow]
    split <;> rfl

theorem updateCounted_atTunnel (s : State) (t : Tunnel) (w : WashRecord) :
    updateCounted (atTunnel s t) w = atTunnel (updateCounted s w) t := by
  have hrow : ∀ n, row (atTunnel s t) n = row s n := fun _ => rfl
  simp only [updateCounted, hrow]
  split
  · rfl
  · split <;> rfl

theorem appendRecord_atTunnel (s : State) (t : Tunnel) (w : WashRecord) :
    appendRecord (atTunnel s t) w = atTunnel (appendRecord s w) t := by
  have houtbox : (atTunnel s t).outbox = s.outbox := rfl
  simp only [appendRecord, houtbox]
  split <;> rfl

/-- What a closing as MISSING does rests on the tunnel block nowhere (R64). -/
theorem closeMissing_atTunnel (s : State) (t : Tunnel) (r : TunnelRecord) :
    closeMissing (atTunnel s t) r = atTunnel (closeMissing s r) t := by
  have hraise : ∀ u : State, raise (atTunnel u t) .exitMissing r.rack = atTunnel (raise u .exitMissing r.rack) t :=
    fun _ => rfl
  have hwash : ∀ f, washOfTunnel (atTunnel s t) r f = washOfTunnel s r f := fun _ => rfl
  simp only [closeMissing, missingFiled, fileRecord, hwash, appendRecord_atTunnel, updateCounted_atTunnel, hraise,
    setPlaceOf_atTunnel]

/-- The closings of a run of records at the head of the list are closings of one head after another (R53). -/
theorem foldl_closeMissing_moves (l rest : List TunnelRecord) (s : State) (t : Tunnel) :
    Moves (atTunnel s { t with list := l ++ rest }) (l.foldl closeMissing (atTunnel s { t with list := rest })) := by
  induction l generalizing s with
  | nil => exact .refl
  | cons r l ih =>
    have hclose : Moves (atTunnel s { t with list := r :: l ++ rest })
        (closeMissing (atTunnel s { t with list := l ++ rest }) r) :=
      closeMissing_moves (s := atTunnel s { t with list := r :: l ++ rest }) { t with list := l ++ rest } r
        (by simp [atTunnel]) (by simp only [tunnelCount, atTunnel, List.cons_append, List.length_cons]; omega)
    rw [closeMissing_atTunnel] at hclose
    rw [List.foldl_cons, closeMissing_atTunnel]
    exact hclose.trans (ih (closeMissing s r))

theorem closeOverdue_moves (s : State) : Moves s (closeOverdue s) := by
  have h := foldl_closeMissing_moves (s.tunnel.list.takeWhile (overdue s)) (s.tunnel.list.dropWhile (overdue s)) s
    s.tunnel
  rwa [List.takeWhile_append_dropWhile] at h

theorem closeCheck_moves (s : State) : Moves s (closeCheck s) := by
  unfold closeCheck
  split
  case h_1 => exact .refl
  case h_2 k hslot =>
    have hplace : ∀ (t : State) (n : Option Rack), Moves t (placeUnloaded t n) := by
      intro t n
      unfold placeUnloaded
      split
      · exact .refl
      · split
        · exact .refl
        · exact setPlace_moves t _ _
    have hclosed := (fileRecord_moves (s := s) { s.tunnel with slot := none } (washOfExit s k k.flags (some k.exit))
      le_rfl (by simp [tunnelCount, countOf, hslot]) rfl).trans (hplace _ (countsFor (washOfExit s k k.flags (some k.exit))))
    dsimp only
    split
    · exact hclosed
    · exact hclosed.trans (setLamp_moves _ _)

theorem closeCheckUnread_moves (s : State) : Moves s (closeCheckUnread s) :=
  (changeSlot_moves s _).trans (closeCheck_moves _)

/-! ## Admission (chapter 3) -/

/-- With no test failed the tunnel list and the reservation have room (R33). -/
theorem waitReason_none_room {s : State} {o : ReadOutcome} (h : waitReason s o = none) :
    s.tunnel.list.length < 16 ∧ reservation s < 96 := by
  have hroom : roomReason s = none := by
    unfold waitReason at h
    split at h
    · cases h
    · split at h <;> split at h
      · split at h
        · cases h
        · exact h
      · split at h
        · cases h
        · exact h
      · cases h
      · exact h
  unfold roomReason at hroom
  split at hroom
  · cases hroom
  case isFalse hlist =>
    split at hroom
    · cases hroom
    case isFalse hres => exact ⟨Nat.lt_of_not_le hlist, Nat.lt_of_not_le hres⟩

theorem autoEnrol_moves (s : State) (o : ReadOutcome) : Moves s (autoEnrol s o) := by
  unfold autoEnrol
  split
  · exact .refl
  · split
    · exact (setRow_moves s _ _).trans (removeEnRoute_moves _ _)
    · exact .refl

theorem admitRack_moves {s : State} (o : ReadOutcome) (hlist : s.tunnel.list.length < 16)
    (hroom : reservation s < 96) : Moves s (admitRack s o) :=
  (((Relation.ReflTransGen.single (Move.pending (pendingOf s o) 0 none hlist hroom)).trans
    ((removeEnRouteOf_moves _ _).trans (setPlaceOf_moves _ _ _))).trans (setRunOn_moves _ 0)).trans (wake_moves _)

theorem setStage_moves (s : State) (g : Stage) (h : g.pending? = none) : Moves s (setStage s g) :=
  .single (.stage g (by simp [countOf, h]))

theorem decideAdmission_moves (s : State) (o : ReadOutcome) : Moves s (decideAdmission s o) := by
  rcases decideAdmission_cases s o with ⟨hnone, hadmit⟩ | ⟨r, -, hwait⟩
  · obtain ⟨hlist, hroom⟩ := waitReason_none_room hnone
    rw [hadmit]
    exact (autoEnrol_moves s o).trans (admitRack_moves o (by simpa using hlist) (by simpa [reservation] using hroom))
  · rw [hwait]
    have hstage := (autoEnrol_moves s o).trans (setStage_moves _ (.waiting r o) rfl)
    split
    · exact hstage.trans (raise_moves _ _ _)
    · exact hstage

theorem reevaluate_moves (s : State) : Moves s (reevaluate s) := by
  unfold reevaluate
  split
  · split
    · exact .refl
    · exact decideAdmission_moves s _
  all_goals exact .refl

theorem resumeApproach_moves (s : State) (held : Option ReadOutcome) : Moves s (resumeApproach s held) := by
  unfold resumeApproach
  split
  · have hreading := setStage_moves s .reading rfl
    split
    · exact hreading.trans (decideAdmission_moves _ _)
    · exact hreading.trans (requestRead_moves _ _)
  · exact setStage_moves s .empty rfl

theorem endPending_moves (s : State) : Moves s (endPending s) := by
  unfold endPending
  split
  · exact ((setStage_moves s .reading rfl).trans ((raise_moves _ _ _).trans (setPlaceOf_moves _ _ _))).trans
      (resumeApproach_moves _ _)
  all_goals exact .refl

theorem lapseStep_moves (s : State) : Moves s (lapseStep s) := by
  unfold lapseStep
  split
  case h_1 p n held hstage =>
    have hcount : Moves s (setStage s (.admitting p (n + 1) held)) :=
      .single (.stage _ (by simp [hstage, Stage.pending?]))
    dsimp only
    split
    · exact hcount.trans (endPending_moves _)
    · exact hcount
  all_goals exact .refl

theorem claimAtApproach_moves (s : State) (n : Rack) : Moves s (claimAtApproach s n) := by
  unfold claimAtApproach
  split
  · exact removeEnRoute_moves s n
  · exact (giveUpTunnelRecord_moves s n).trans (setPlace_moves _ _ _)
  · exact (closeCheckUnread_moves s).trans (setPlace_moves _ _ _)
  · exact (removeEnRoute_moves s n).trans (setPlace_moves _ _ _)
  all_goals exact setPlace_moves s n _

theorem approachRead_moves (s : State) (o : ReadOutcome) : Moves s (approachRead s o) := by
  cases o with
  | read n => exact (claimAtApproach_moves s n).trans (decideAdmission_moves _ _)
  | unread => exact decideAdmission_moves s _

theorem leaveStop_moves (s : State) (n : Option Rack) : Moves s (leaveStop s n) := by
  unfold leaveStop
  split
  · split
    · exact (removeEnRoute_moves s _).trans (setPlace_moves _ _ _)
    · exact .refl
  · exact .refl

theorem dropHeld_moves (s : State) (held : Option ReadOutcome) (kept : Option Rack) :
    Moves s (dropHeld s held kept) := by
  unfold dropHeld
  split
  · split
    · exact .refl
    · exact leaveStop_moves s _
  all_goals exact .refl

theorem heldOutcome_moves {s : State} {p : Pending} {lapse : Nat} {held : Option ReadOutcome} (o : ReadOutcome)
    (h : s.stage = .admitting p lapse held) : Moves s (heldOutcome s p lapse held o) := by
  have hholds : ∀ (t : State), t.stage = s.stage → Moves t (setStage t (.admitting p lapse (some o))) :=
    fun t ht => .single (.stage _ (by simp [ht, h, Stage.pending?]))
  cases o with
  | read n =>
    unfold heldOutcome
    dsimp only
    split
    · exact ((setStage_moves s .reading rfl).trans ((raise_moves _ _ _).trans (dropHeld_moves _ _ _))).trans
        ((setPlace_moves _ _ _).trans (approachRead_moves _ _))
    · exact ((claimAtApproach_moves s n).trans (dropHeld_moves _ _ _)).trans (hholds _ (by simp))
  | unread => exact (dropHeld_moves s held none).trans (hholds _ (by simp))

theorem entryOutcome_moves (s : State) (o : ReadOutcome) : Moves s (entryOutcome s o) := by
  unfold entryOutcome
  split
  case h_1 => exact approachRead_moves s o
  case h_2 hstage => exact heldOutcome_moves o hstage
  all_goals exact .refl

theorem approachBlocked_moves (s : State) : Moves s (approachBlocked s) := by
  unfold approachBlocked
  split
  · exact setStage_moves s _ rfl
  all_goals exact .refl

theorem approachClear_moves (s : State) : Moves s (approachClear s) := by
  unfold approachClear
  split
  case h_1 => exact .refl
  case h_2 => exact setStage_moves s _ rfl
  case h_3 => exact (setStage_moves s .empty rfl).trans (leaveStop_moves _ _)
  case h_4 hstage =>
    exact .head (.stage _ (by simp [hstage, Stage.pending?])) (dropHeld_moves _ _ _)

theorem forcedEntry_moves {s : State} (h : s.stage.pending? = none) : Moves s (forcedEntry s) := by
  unfold forcedEntry
  split
  case isTrue hroom => exact .head (.force _ h hroom.1 hroom.2) (raise_moves _ _ _)
  case isFalse => exact raiseMarked_moves s _ _ _

theorem entryEyeBlocked_moves (s : State) : Moves s (entryEyeBlocked s) := by
  unfold entryEyeBlocked
  split
  case h_1 hstage =>
    exact .head (.enter _ (by simp [hstage, Stage.pending?]))
      ((setPlaceOf_moves _ _ _).trans (resumeApproach_moves _ _))
  all_goals
    rename_i hstage
    exact forcedEntry_moves (by simp [hstage, Stage.pending?])

/-! ## What an event settles -/

theorem runOnWhileOccupied_moves (s : State) : Moves s (runOnWhileOccupied s) := by
  unfold runOnWhileOccupied
  split
  · exact .refl
  · exact setRunOn_moves s 0

theorem drainTest_moves (s : State) : Moves s (drainTest s) := by
  unfold drainTest
  split
  · exact ((setDraining_moves s false).tail (.mode _)).trans (reevaluate_moves _)
  · exact .refl

theorem runOnTest_moves (s : State) : Moves s (runOnTest s) := by
  unfold runOnTest
  split
  · exact ((setRunOn_moves s 0).tail (.mode _)).trans (reevaluate_moves _)
  · exact .refl

theorem settle_moves (s : State) : Moves s (settle s) :=
  (reevaluate_moves s).trans
    ((runOnWhileOccupied_moves _).trans ((drainTest_moves _).trans (runOnTest_moves _)))

/-! ## The exit eye and the exit check -/

theorem claimAtExit_moves (s : State) (n : Rack) : Moves s (claimAtExit s n) := by
  unfold claimAtExit
  split
  · exact removeEnRoute_moves s n
  · exact giveUpTunnelRecord_moves s n
  · exact endPending_moves s
  · exact removeEnRoute_moves s n
  all_goals exact .refl

theorem extraAtExit_moves (s : State) : Moves s (extraAtExit s) := by
  unfold extraAtExit
  dsimp only
  split
  case isTrue hroom => exact (raise_moves s _ _).tail (.extra _ hroom)
  case isFalse => exact (raise_moves s _ _).trans (raise_moves _ _ _)

theorem matchHead_moves {s : State} (h : s.tunnel.slot = none) : Moves s (matchHead s) := by
  unfold matchHead
  split
  case h_1 => exact extraAtExit_moves s
  case h_2 hlist =>
    split
    · exact .head (.tunnel _ (by simp [hlist]) (by simp [tunnelCount, countOf, h, hlist])) (setPlaceOf_moves _ _ _)
    · exact extraAtExit_moves s

theorem exitEyeBlocked_moves (s : State) : Moves s (exitEyeBlocked s) := by
  unfold exitEyeBlocked
  split
  case h_1 hslot =>
    exact ((setLamp_moves s .off).trans (closeOverdue_moves _)).trans (matchHead_moves (by simpa [lampOff] using hslot))
  case h_2 => exact setLamp_moves s .off

theorem nameAndClose_moves (s : State) (n : Rack) : Moves s (nameAndClose s n) :=
  (changeSlot_moves s _).trans ((claimAtExit_moves _ n).trans (closeCheck_moves _))

theorem repairExit_moves {s : State} {k : ExitRecord} {h : TunnelRecord} {rest : List TunnelRecord}
    (hslot : s.tunnel.slot = some k) (hlist : s.tunnel.list = h :: rest) : Moves s (repairExit s k h) := by
  have hmissing : Moves s (closeMissingSlot (setSlot s none) k) :=
    (fileRecord_moves { s.tunnel with slot := none } _ le_rfl (by simp [tunnelCount, countOf, hslot]) rfl).trans
      (missingFiled_moves _ _)
  refine hmissing.trans (.head (.tunnel _ ?_ ?_) ((setPlaceOf_moves _ _ _).trans (closeCheck_moves _)))
  · simp [setSlot, hlist]
  · simp [setSlot, tunnelCount, countOf, hlist]

theorem swapExit_moves (s : State) (m n : Rack) : Moves s (swapExit s m n) :=
  (changeSlot_moves s _).trans ((setPlace_moves _ _ _).trans ((claimAtExit_moves _ _).trans
    ((raise_moves _ _ _).trans (closeCheck_moves _))))

theorem exitRead_moves {s : State} {k : ExitRecord} (n : Rack) (hslot : s.tunnel.slot = some k) :
    Moves s (exitRead s k n) := by
  unfold exitRead
  split
  · exact closeCheck_moves s
  · split
    case h_1 h hhead =>
      obtain ⟨hhead, -⟩ := Option.filter_eq_some_iff.mp hhead
      obtain ⟨rest, hlist⟩ := List.head?_eq_some_iff.mp hhead
      exact repairExit_moves hslot hlist
    case h_2 =>
      split
      · exact nameAndClose_moves s n
      · exact swapExit_moves s _ n

theorem exitOutcome_moves (s : State) (o : ReadOutcome) : Moves s (exitOutcome s o) := by
  unfold exitOutcome
  split
  case h_1 => exact .refl
  case h_2 => exact closeCheckUnread_moves s
  case h_3 k n hslot =>
    split
    · exact nameAndClose_moves s n
    · exact exitRead_moves n hslot

end Sys2Proof.Proofs
end

section
/-! PROOFS. What each command of the card does, as moves: a command answers a next state that moves lead to. -/

namespace Sys2Proof.Proofs

open Sys2Proof.Machine Sys2Proof.Laws

/-! ## The return belt (chapter 9) -/

/-- The state with the return dispatcher's block replaced. -/
def atReturns (s : State) (r : Return) : State := { s with returns := r }

theorem setPlaceOf_atReturns (s : State) (r : Return) (n : Option Rack) (p : Place) :
    setPlaceOf (atReturns s r) n p = atReturns (setPlaceOf s n p) r := by
  cases n with
  | none => rfl
  | some n =>
    have hrow : row (atReturns s r) n = row s n := rfl
    simp only [setPlaceOf, setPlace, hrow]
    split <;> rfl

/-- The loss of a rack rests on the dispatcher's block nowhere (R143). -/
theorem loseRack_atReturns (s : State) (r : Return) (e : EnRoute) :
    loseRack (atReturns s r) e = atReturns (loseRack s e) r :=
  setPlaceOf_atReturns (raise s .returnLost e.rack) r e.rack .lost

theorem loseRack_moves (s : State) (e : EnRoute) : Moves s (loseRack s e) :=
  (raise_moves s _ _).trans (setPlaceOf_moves _ _ _)

theorem foldl_loseRack_moves (l : List EnRoute) (s : State) : Moves s (l.foldl loseRack s) := by
  induction l generalizing s with
  | nil => exact .refl
  | cons e l ih => exact (loseRack_moves s e).trans (ih _)

/-- The en-route list replaced by one that is no longer, or within its limit. -/
theorem atEnRoute_moves (s : State) (l : List EnRoute) (h : l.length ≤ s.returns.enRoute.length ∨ l.length ≤ 24) :
    Moves s (atReturns s { s.returns with enRoute := l }) :=
  .single (.returns s.returns.stations l s.returns.pointers h)

theorem removeEntry_moves (s : State) (i : Nat) : Moves s (removeEntry s i) :=
  atEnRoute_moves s _ (.inl (List.length_eraseIdx_le _ _))

theorem moveEntryOn_moves (s : State) (i lastEye : Nat) : Moves s (moveEntryOn s i lastEye) :=
  atEnRoute_moves s _ (.inl (by simp))

theorem loseEntry_moves (s : State) (i : Nat) : Moves s (loseEntry s i) := by
  unfold loseEntry
  split
  · exact .refl
  · split
    · exact (removeEntry_moves s i).trans (loseRack_moves _ _)
    · exact .refl

theorem appendEnRoute_moves (s : State) (rack : Option Rack) (target : Option Station) :
    Moves s (appendEnRoute s rack target) := by
  refine Relation.ReflTransGen.trans ?_ (setPlaceOf_moves _ _ _)
  unfold dropOldest
  split
  case h_1 hlist => exact atEnRoute_moves s _ (.inr (by simp [hlist]))
  case h_2 e rest hlist =>
    split
    case isTrue hfull =>
      have hdrop : loseRack { s with returns := { s.returns with enRoute := rest } } e =
          atReturns (loseRack s e) { s.returns with enRoute := rest } := loseRack_atReturns s _ e
      rw [hdrop]
      have happend : ∀ new : EnRoute,
          Moves s (atReturns (loseRack s e) { s.returns with enRoute := rest ++ [new] }) := fun new =>
        loseRack_atReturns s _ e ▸ (atEnRoute_moves s (rest ++ [new]) (.inl (by simp [hlist]))).trans (loseRack_moves _ e)
      exact happend _
    case isFalse hroom =>
      refine atEnRoute_moves s _ (.inr ?_)
      simp only [Config.enRouteLimit, Nat.not_le] at hroom
      simp only [List.length_append, List.length_singleton]
      omega

theorem movePointer_moves (s : State) (c : RackClass) (m : Option Station) : Moves s (movePointer s c m) := by
  cases m with
  | none => exact .refl
  | some m => exact .single (.returns s.returns.stations s.returns.enRoute _ (.inl le_rfl))

theorem skipRewash_moves (s : State) (n : Rack) (w : Row) : Moves s (skipRewash s n w) := by
  unfold skipRewash
  split
  · exact (raise_moves s _ _).trans (setRow_moves _ _ _)
  · exact .refl

theorem dispatchRead_moves (s : State) (n : Rack) (wasQueued : Bool) : Moves s (dispatchRead s n wasQueued) := by
  unfold dispatchRead
  split
  · exact appendEnRoute_moves s _ _
  · split
    · exact appendEnRoute_moves s _ _
    · split
      · exact appendEnRoute_moves s _ _
      · exact (skipRewash_moves s n _).trans ((movePointer_moves _ _ _).trans (appendEnRoute_moves _ _ _))

theorem claimAtReturn_moves (s : State) (n : Rack) : Moves s (claimAtReturn s n) := by
  unfold claimAtReturn
  split
  · exact removeEnRoute_moves s n
  · exact giveUpTunnelRecord_moves s n
  · exact closeCheckUnread_moves s
  · exact endPending_moves s
  · exact removeEnRoute_moves s n
  all_goals exact .refl

theorem returnOutcome_moves (s : State) (o : ReadOutcome) : Moves s (returnOutcome s o) := by
  cases o with
  | read n => exact (claimAtReturn_moves s n).trans (dispatchRead_moves _ _ _)
  | unread => exact appendEnRoute_moves s none none

theorem pulseDiverter_moves (s : State) (k : Station) : Moves s (pulseDiverter s k) := by
  unfold pulseDiverter
  split
  case isTrue => exact .refl
  case isFalse hrun => exact .single (.diverters _ fun hhalt => absurd hhalt hrun)

theorem diverterEyeBlocked_moves (s : State) (k : Station) : Moves s (diverterEyeBlocked s k) := by
  unfold diverterEyeBlocked
  split
  · exact raise_moves s _ _
  · split
    · exact .refl
    · split
      · exact (pulseDiverter_moves s k).trans ((removeEntry_moves _ _).trans (setPlaceOf_moves _ _ _))
      · exact moveEntryOn_moves s _ _

theorem returnEndBlocked_moves (s : State) : Moves s (returnEndBlocked s) := by
  unfold returnEndBlocked
  split
  · exact raise_moves s _ _
  · split
    · exact .refl
    · exact (removeEntry_moves s _).trans (setPlaceOf_moves _ _ _)

/-! ## The tray belts (chapter 10) -/

/-- One tray belt changed, stopped for the line as it was before. -/
theorem setTrayChannel_moves (s : State) (b : TrayBelt) (c : TrayChannel)
    (h : c.state = .stoppedLine ↔ (trayChannel s b).state = .stoppedLine) : Moves s (setTrayChannel s b c) := by
  cases b with
  | north => exact .single (.trays _ rfl h Iff.rfl)
  | south => exact .single (.trays _ rfl Iff.rfl h)

theorem trayArrives_moves (s : State) (b : TrayBelt) : Moves s (trayArrives s b) := by
  unfold trayArrives
  dsimp only
  split
  case isTrue => exact .refl
  case isFalse hrun =>
    rw [not_not] at hrun
    split
    · exact setTrayChannel_moves s b _ Iff.rfl
    · split
      · exact setTrayChannel_moves s b _ (by simp [hrun])
      · exact (setTrayChannel_moves s b { trayChannel s b with
          holdCount := 0
          leakCount := saturatingAdd Config.wordLimit (trayChannel s b).leakCount 1 } Iff.rfl).trans
          (raise_moves _ _ _)

theorem headFullChange_moves (s : State) (b : TrayBelt) (active : Bool) : Moves s (headFullChange s b active) := by
  unfold headFullChange
  dsimp only
  split
  case h_1 hstate => exact setTrayChannel_moves s b _ (by simp [hstate])
  case h_2 hstate => exact setTrayChannel_moves s b _ (by simp [hstate])
  case h_3 hstate => exact setTrayChannel_moves s b _ (by simp [hstate])
  all_goals exact .refl

theorem holdTimerEnds_moves (s : State) (b : TrayBelt) : Moves s (holdTimerEnds s b) := by
  unfold holdTimerEnds
  dsimp only
  split
  case h_1 hstate =>
    split
    · exact setTrayChannel_moves s b _ (by simp [hstate])
    · exact .refl
  all_goals exact .refl

theorem setCongestion_moves (s : State) (n : Nat) : Moves s (setCongestion s n) :=
  .single (.trays _ rfl Iff.rfl Iff.rfl)

/-! ## The encoder (chapter 1) -/

/-- The encoder's counts changed, its timer left alone. -/
theorem setCounts_moves (s : State) (forwardAcc : Nat) (odometer : Odometer) (reverseAcc reverseCount : Nat) :
    Moves s { s with belt := {
      forwardAcc := forwardAcc, odometer := odometer, reverseAcc := reverseAcc, reverseCount := reverseCount
      timer := s.belt.timer } } :=
  .single (.belt _ id fun _ n hn => ⟨n, hn⟩)

theorem runOnStep_moves (s : State) : Moves s (runOnStep s) := by
  unfold runOnStep
  split
  · exact setRunOn_moves s _
  · exact .refl

theorem travelEvent_moves (s : State) : Moves s (travelEvent s) :=
  (setCounts_moves s s.belt.forwardAcc (s.belt.odometer + 1) 0 0).trans ((runOnStep_moves _).trans
    ((lapseStep_moves _).trans ((closeOverdue_moves _).trans (settle_moves _))))

theorem travelEvents_moves (s : State) (n : Nat) : Moves s (travelEvents s n) := by
  induction n generalizing s with
  | zero => exact .refl
  | succ n ih => exact (travelEvent_moves s).trans (ih _)

theorem forwardCount_moves (s : State) : Moves s (forwardCount s) := by
  refine .single (.belt _ (fun hidle => ?_) fun _ n hrun => ⟨0, ?_⟩)
  · simp [hidle, encoderSeen]
  · simp [hrun, encoderSeen]

theorem reverseMillimetre_moves (s : State) : Moves s (reverseMillimetre s) := by
  unfold reverseMillimetre
  split
  · exact .refl
  · have hcount := setCounts_moves s s.belt.forwardAcc s.belt.odometer s.belt.reverseAcc (s.belt.reverseCount + 1)
    dsimp only
    split
    · exact hcount.trans ((raise_moves _ _ _).trans ((requestHalt_moves _ _).trans (settle_moves _)))
    · exact hcount

theorem reverseMillimetres_moves (s : State) (n : Nat) : Moves s (reverseMillimetres s n) := by
  induction n generalizing s with
  | zero => exact .refl
  | succ n ih => exact (reverseMillimetre_moves s).trans (ih _)

/-- A timer about to reach 30 is RUNNING (R8). -/
theorem encoderLastTenth_running {s : State} (h : encoderLastTenth s = true) : ∃ n, s.belt.timer = .running n := by
  unfold encoderLastTenth at h
  split at h
  · exact ⟨_, ‹_›⟩
  all_goals cases h

/-- The expiry halts a line that is not in HALT by the move that stops the belt with its timer, and a halted one by a
new cause (R9, R163). -/
theorem encoderExpiry_moves {s : State} {n : Nat} (h : s.belt.timer = .running n) : Moves s (encoderExpiry s) := by
  have hflag := (raise_moves s .encStall none).trans
    (flagRecords_moves _ (fun _ => true) fun f => { f with halted := true })
  by_cases hhalt : s.sup.mode.isHalt = true
  · have hcause : encoderExpiry s = { atTimer (flagRecords (raise s .encStall none) (fun _ => true) fun f =>
        { f with halted := true }) .expired with sup := { (raise s .encStall none).sup with mode := .halt .encStall } } :=
      if_pos hhalt
    rw [hcause]
    refine (hflag.tail (.belt _ (fun hidle => ?_) fun hrun _ _ => ?_)).tail (.cause .encStall hhalt)
    · cases h.symm.trans hidle
    · rw [show s.sup.mode = .run from hrun] at hhalt
      cases hhalt
  · have hmode : encoderExpiry s = changeMode (atTimer (flagRecords (raise s .encStall none) (fun _ => true) fun f =>
        { f with halted := true }) .expired) (.halt .encStall) := if_neg hhalt
    rw [hmode]
    exact hflag.tail (.encoder n h)

/-! ## The probes (chapter 5) -/

theorem rinseHeadEvent_moves (s : State) (v : Option Nat) : Moves s (rinseHeadEvent s v) := by
  unfold rinseHeadEvent
  dsimp only
  split
  · exact (raise_moves s .rinseProbe none).tail (.holds s.pacing.exitCause s.pacing.doorCause s.pacing.pauseCause _)
  · exact .single (.holds s.pacing.exitCause s.pacing.doorCause s.pacing.pauseCause _)

theorem washHeadEvent_moves (s : State) (v : Option Nat) : Moves s (washHeadEvent s v) := by
  unfold washHeadEvent
  dsimp only
  split
  · exact (raise_moves s .washProbe none).tail (.holds s.pacing.exitCause s.pacing.doorCause s.pacing.pauseCause _)
  · exact .single (.holds s.pacing.exitCause s.pacing.doorCause s.pacing.pauseCause _)

theorem rinseAccrual_moves (s : State) (v : Option Nat) : Moves s (rinseAccrual s v) := by
  cases v with
  | some t => exact mapRecords_moves s _
  | none => exact flagRecords_moves s (inFinal s) fun f => { f with probeGap := true }

theorem washAccrual_moves (s : State) (v : Option Nat) : Moves s (washAccrual s v) := by
  unfold washAccrual
  split
  · exact .refl
  · split
    · exact mapRecords_moves s _
    · exact .refl

theorem demandAtSample_moves (s : State) (v : Option Nat) : Moves s (demandAtSample s v) := by
  unfold demandAtSample
  split
  · split
    · exact .single (.demand _)
    · exact .refl
  · exact .refl

theorem lineAtRinseSample_moves (s : State) (v : Option Nat) (fault : Bool) :
    Moves s (lineAtRinseSample s v fault) := by
  unfold lineAtRinseSample
  split
  case h_4 => exact .refl
  all_goals
    split
    · exact .single (.mode _)
    · exact .refl

theorem lineAtWashSample_moves (s : State) (v : Option Nat) (fault : Bool) :
    Moves s (lineAtWashSample s v fault) := by
  unfold lineAtWashSample
  split
  case h_3 => exact .refl
  all_goals
    split
    · exact .single (.mode _)
    · exact .refl

theorem rinseSample_moves (s : State) (v : Option Nat) : Moves s (rinseSample s v) := by
  have hend : ∀ t, Moves t (lineAtRinseSample (demandAtSample t v) v (isProbeFault s.rinse.rinse v)) :=
    fun t => (demandAtSample_moves t v).trans (lineAtRinseSample_moves _ _ _)
  unfold rinseSample
  dsimp only
  split
  · exact (rinseHeadEvent_moves s v).trans ((rinseAccrual_moves _ v).trans (hend _))
  · exact (rinseHeadEvent_moves s v).trans (hend _)

theorem washSample_moves (s : State) (v : Option Nat) : Moves s (washSample s v) :=
  (washHeadEvent_moves s v).trans ((washAccrual_moves _ v).trans (lineAtWashSample_moves _ _ _))

theorem setPhase_moves (s : State) (p : PollPhase) : Moves s (setPhase s p) := by
  unfold setPhase
  split
  · exact .refl
  · exact .single (.cycle _)

theorem endPoll_moves (s : State) (v : Option Nat) : Moves s (endPoll s v) := by
  unfold endPoll
  split
  · exact .refl
  · exact (setPhase_moves s _).trans ((rinseSample_moves _ v).trans (settle_moves _))
  · exact (setPhase_moves s _).trans ((washSample_moves _ v).trans (settle_moves _))

/-! ## The 0.1 s step -/

theorem trayTenth_stoppedLine (c : TrayChannel) : (trayTenth c).state = .stoppedLine ↔ c.state = .stoppedLine := by
  unfold trayTenth
  split
  case h_1 hstate => dsimp only; split <;> simp [hstate]
  all_goals exact Iff.rfl

theorem countTenth_moves (s : State) : Moves s (countTenth s) := by
  refine ((((Relation.ReflTransGen.single (Move.belt { s.belt with timer := encoderTenth s.belt.timer }
    (fun hidle => ?_) fun _ n hrun => ⟨n + 1, ?_⟩)).trans (setLamp_moves _ (lampTenth s.tunnel.lamp))).tail
    (.stall (stallTenth s.pacing.stallTimer) fun hidle => ?_)).tail
    (.diverters (vectorMap diverterTenth s.returns.diverters) fun _ hoff k => ?_)).tail
    (.trays { s.tray with north := trayTenth s.tray.north, south := trayTenth s.tray.south } rfl
      (trayTenth_stoppedLine _) (trayTenth_stoppedLine _))
  · simp [hidle, encoderTenth]
  · simp [hrun, encoderTenth]
  · rw [show s.pacing.stallTimer = .idle from hidle, stallTenth]
  · rw [Fin.getElem_fin, vectorMap_getElem, show s.returns.diverters[k.val] = .off from hoff k, diverterTenth]

theorem deadlinesTenth_moves (s : State) : Moves s (deadlinesTenth s) := by
  unfold deadlinesTenth
  split
  · refine (atEnRoute_moves s _ (.inl ?_)).trans (foldl_loseRack_moves _ _)
    rw [List.length_map]
    exact List.length_filter_le _ _
  · exact .refl

theorem stallAlert_moves (s : State) : Moves s (stallAlert s) :=
  (raise_moves s _ _).trans (flagRecords_moves _ _ _)

/-! ## Settings, loads and saves -/

theorem requalify_moves (old new : Vector Bool 20) (s : State) (i : Input) : Moves s (requalify old new s i) := by
  unfold requalify
  split
  · exact .refl
  · refine .single (.inputs _ ?_)
    change isActive (setChannel s i _) .rf = _
    rw [isActive_setChannel]
    split
    case isTrue hi => rw [hi]; rfl
    case isFalse => rfl

theorem foldl_requalify_moves (old new : Vector Bool 20) (l : List Input) (s : State) :
    Moves s (l.foldl (requalify old new) s) := by
  induction l generalizing s with
  | nil => exact .refl
  | cons i l ih => exact (requalify_moves old new s i).trans (ih _)

theorem limitHoldCounts_moves (s : State) : Moves s (limitHoldCounts s) :=
  .single (.trays _ rfl Iff.rfl Iff.rfl)

theorem setDemand_moves (s : State) (d : Nat) : Moves s (setDemand s d) := .single (.demand d)

theorem adoptSettings_moves (s : State) (c : Settings) (epm : Bool) : Moves s (adoptSettings s c epm) := by
  have hpol : Moves s (Input.all.foldl (requalify s.settings.pol c.pol) { s with settings := c }) :=
    .head (.settings c) (foldl_requalify_moves _ _ _ _)
  have hrest : ∀ t, Moves t (setDemand (limitHoldCounts (setCongestion t (min t.tray.congestionTimer
      (congestionLimit t)))) (clampSpeed c t.pacing.speedDemand)) := fun t =>
    (setCongestion_moves t _).trans ((limitHoldCounts_moves _).trans (setDemand_moves _ _))
  unfold adoptSettings
  dsimp only
  split
  · exact hpol.trans ((setCounts_moves _ 0 _ 0 _).trans (hrest _))
  · exact hpol.trans (hrest _)

theorem foldl_setPlaceOf_moves (p : Place) (l : List EnRoute) (s : State) :
    Moves s (l.foldl (fun t e => setPlaceOf t e.rack p) s) := by
  induction l generalizing s with
  | nil => exact .refl
  | cons e l ih => exact (setPlaceOf_moves s _ _).trans (ih _)

theorem placeEarlyReads_moves (s : State) : Moves s (placeEarlyReads s) :=
  (setPlaceOf_moves s _ _).trans (foldl_setPlaceOf_moves _ _ _)

theorem loadTables_moves (s : State) (i : StoreImage) : Moves s (loadTables s i) :=
  ((setMask_moves s i.mask).tail (.returns i.stations _ _ (.inl le_rfl))).tail (.registry _)

theorem raiseIfBad_moves (s : State) (image : Option StoreImage) : Moves s (raiseIfBad s image) := by
  cases image with
  | some _ => exact .refl
  | none => exact raise_moves s _ _

theorem handOver_moves (s : State) (kind : LoadKind) (image : Option StoreImage) :
    Moves s (handOver s kind image) := by
  have hend : ∀ t, Moves t (setDemand (raiseIfBad t image) (par t .vnom)) := fun t =>
    (raiseIfBad_moves t image).trans (setDemand_moves _ _)
  cases kind with
  | powerUp =>
    exact (adoptSettings_moves s _ _).trans ((loadTables_moves _ _).trans ((placeEarlyReads_moves _).trans (hend _)))
  | lineReset => exact (adoptSettings_moves s _ _).trans (hend _)

theorem handOverAtRest_moves (s : State) (image : Option StoreImage) : Moves s (handOverAtRest s image) :=
  (adoptSettings_moves s _ _).trans ((loadTables_moves _ _).trans (raiseIfBad_moves _ _))

theorem beginPolling_moves (s : State) : Moves s (beginPolling s) := by
  unfold beginPolling
  split
  · exact .single (.cycle _)
  · exact .refl

theorem setStoreOp_moves (s : State) (op : StoreOp) (last : SaveResult) :
    Moves s { s with sup := { s.sup with storeOp := op, lastSave := last } } :=
  .single (.counts s.sup.draining s.sup.runOn op last)

theorem modeAtLoadCompletion_moves (s : State) : Moves s (modeAtLoadCompletion s) := by
  unfold modeAtLoadCompletion
  split
  · split
    · exact requestHalt_moves s _
    · exact .single (.mode _)
  · exact .refl

theorem completeLoad_moves (s : State) (kind : LoadKind) (image : Option StoreImage) :
    Moves s (completeLoad s kind image) :=
  (handOver_moves s kind image).trans ((beginPolling_moves _).trans ((setStoreOp_moves _ .none _).trans
    ((modeAtLoadCompletion_moves _).trans (settle_moves _))))

theorem completeSave_moves (s : State) (image : StoreImage) (readBack : StoreContents) :
    Moves s (completeSave s image readBack) := by
  have hstore : ∀ last, Moves s { s with store := readBack, sup := { s.sup with storeOp := .none, lastSave := last } } :=
    fun last => .head (.store readBack s.freeIndex) (setStoreOp_moves _ .none last)
  unfold completeSave
  dsimp only
  split
  · exact hstore .passed
  · exact (hstore .failed).trans (raise_moves _ _ _)

/-! ## The field inputs (chapter 2) -/

theorem abandonRead_moves (s : State) (r : Reader) : Moves s (abandonRead s r) := setReader_moves s r _

theorem approachEye_moves (s : State) (blocked : Bool) : Moves s (approachEye s blocked) := by
  unfold approachEye
  split
  · exact (startRead_moves s _).trans (approachBlocked_moves _)
  · exact (abandonRead_moves s _).trans (approachClear_moves _)

theorem exitEye_moves (s : State) (blocked : Bool) : Moves s (exitEye s blocked) := by
  unfold exitEye
  split
  · exact (startRead_moves s _).trans (exitEyeBlocked_moves _)
  · exact (abandonRead_moves s _).trans (closeCheckUnread_moves _)

theorem returnGateEye_moves (s : State) (blocked : Bool) : Moves s (returnGateEye s blocked) := by
  unfold returnGateEye
  split
  · exact startRead_moves s _
  · split
    · exact (abandonRead_moves s _).trans (returnOutcome_moves _ _)
    · exact .refl

theorem doorChange_moves (s : State) (d : Door) (isOpen : Bool) : Moves s (doorChange s d isOpen) := by
  unfold doorChange
  split
  · exact (flagRecords_moves s (inDoorSpan s d) fun f => { f with door := true }).tail
      (.holds s.pacing.exitCause true s.pacing.pauseCause s.rinse)
  · exact .single (.holds s.pacing.exitCause _ s.pacing.pauseCause s.rinse)

theorem tableFullChange_moves (s : State) (active : Bool) : Moves s (tableFullChange s active) :=
  .single (.holds active s.pacing.doorCause s.pacing.pauseCause s.rinse)

/-- An event delivered only where its input is active. -/
theorem ifActive_moves {s t : State} (active : Bool) (h : Moves s t) : Moves s (if active then t else s) := by
  cases active with
  | true => exact h
  | false => exact .refl

theorem deliver_moves (s : State) (i : Input) (active : Bool) (h : i ≠ .rf) : Moves s (deliver s i active) := by
  cases i with
  | rf => exact absurd rfl h
  | ap => exact (approachEye_moves s active).trans (settle_moves _)
  | en => exact ifActive_moves active ((entryEyeBlocked_moves s).trans (settle_moves _))
  | ex => exact (exitEye_moves s active).trans (settle_moves _)
  | rg => exact (returnGateEye_moves s active).trans (settle_moves _)
  | v1 => exact ifActive_moves active (diverterEyeBlocked_moves s 0)
  | v2 => exact ifActive_moves active (diverterEyeBlocked_moves s 1)
  | v3 => exact ifActive_moves active (diverterEyeBlocked_moves s 2)
  | v4 => exact ifActive_moves active (diverterEyeBlocked_moves s 3)
  | re => exact ifActive_moves active (returnEndBlocked_moves s)
  | hn => exact ifActive_moves active (trayArrives_moves s .north)
  | hs => exact ifActive_moves active (trayArrives_moves s .south)
  | d1 => exact (doorChange_moves s .d1 active).trans (settle_moves _)
  | d2 => exact (doorChange_moves s .d2 active).trans (settle_moves _)
  | d3 => exact (doorChange_moves s .d3 active).trans (settle_moves _)
  | es => exact ifActive_moves active ((requestHalt_moves s _).trans (settle_moves _))
  | sk => exact .refl
  | tf => exact (tableFullChange_moves s active).trans (settle_moves _)
  | fn => exact headFullChange_moves s .north active
  | fs => exact headFullChange_moves s .south active

theorem setChannel_moves (s : State) (i : Input) (c : InputChannel)
    (h : i = .rf → c.filtered = isActive s .rf) : Moves s (setChannel s i c) := by
  refine .single (.inputs _ ?_)
  change isActive (setChannel s i c) .rf = _
  rw [isActive_setChannel]
  split
  case isTrue hi => exact h hi
  case isFalse => rfl

/-- The filtered event of RETURN END FULL is one move with the return belt's; those of the other inputs follow their
channel's (R17, R20). -/
theorem turned_moves (s : State) (i : Input) :
    Moves s (deliver (setChannel s i (filterTurned (channel s i))) i (!(channel s i).filtered)) := by
  by_cases hi : i = .rf
  · subst hi
    exact .single (.returnEndFull _)
  · exact (setChannel_moves s i _ fun h => absurd h hi).trans (deliver_moves _ _ _ hi)

theorem deliverOutcome_moves (s : State) (r : Reader) (o : ReadOutcome) : Moves s (deliverOutcome s r o) := by
  cases r with
  | entry => exact entryOutcome_moves s o
  | exit => exact exitOutcome_moves s o
  | ret => exact returnOutcome_moves s o

theorem failAttempt_moves (s : State) (r : Reader) (a : Nat) : Moves s (failAttempt s r a) := by
  unfold failAttempt
  dsimp only
  split
  · exact setReader_moves s r _
  · exact (setReader_moves s r _).trans ((deliverOutcome_moves _ _ _).trans (settle_moves _))

/-! ## Requests (chapter 12) -/

theorem takeRequest_moves (s : State) (command : Text) (effect : State → State × Reply)
    (h : ∀ t, Moves t (effect t).1) : Moves s (takeRequest s command effect) := by
  unfold takeRequest
  split
  · exact (Relation.ReflTransGen.head (.link _) (h _)).tail (.link _)
  · exact .refl

theorem withoutFields_moves (fields : List Text) (effect : State → State × Reply)
    (h : ∀ t, Moves t (effect t).1) (t : State) : Moves t (withoutFields fields effect t).1 := by
  cases fields with
  | nil => exact h t
  | cons _ _ => exact .refl

theorem ldEffect_moves (s : State) : Moves s (ldEffect s).1 := by
  unfold ldEffect
  split
  · exact .refl
  · split
    · exact .refl
    · split
      · exact .refl
      · exact (handOverAtRest_moves s _).trans (settle_moves _)

theorem svEffect_moves (s : State) : Moves s (svEffect s).1 := by
  unfold svEffect
  split
  · exact .refl
  · exact .head (.store _ (s.freeIndex + 1)) (setStoreOp_moves _ (.saving (currentImage s)) .none)

theorem goEffect_moves (s : State) : Moves s (goEffect s).1 := by
  unfold goEffect
  split
  · exact .head (.mode _) (settle_moves _)
  · exact (Relation.ReflTransGen.single (Move.counts false 0 s.sup.storeOp s.sup.lastSave)).trans (settle_moves _)
  all_goals exact .refl

theorem spEffect_moves (s : State) : Moves s (spEffect s).1 := by
  unfold spEffect
  split
  · split
    · exact .head (.mode _) (settle_moves _)
    · exact (setDraining_moves s true).trans (settle_moves _)
  all_goals exact .refl

theorem crEffect_moves (s : State) : Moves s (crEffect s).1 := by
  unfold crEffect
  split
  · exact .refl
  · split
    · exact .refl
    · split
      · exact ((setDraining_moves s false).tail (.mode _)).trans (settle_moves _)
      · exact .refl

theorem setPause_moves (s : State) (b : Bool) : Moves s (setPause s b) :=
  .single (.holds s.pacing.exitCause s.pacing.doorCause b s.rinse)

/-! ## Every command -/

/-- A command of the card answers a next state, which moves lead to. -/
def Answers (s : State) (o : Host.Outcome State Fault Refusal) : Prop := ∃ t, o = .next t ∧ Moves s t

theorem answers_of_moves {s t : State} (h : Moves s t) : Answers s (.next t) := ⟨t, rfl, h⟩

theorem answers_same (s : State) : Answers s (.next s) := answers_of_moves .refl

theorem answers_request {s : State} {command : Text} {effect : State → State × Reply}
    (h : ∀ t, Moves t (effect t).1) : Answers s (.next (takeRequest s command effect)) :=
  answers_of_moves (takeRequest_moves s command effect h)

/-- A request that reports, or that is refused, moves nothing but the link. -/
theorem answers_report {s : State} {command : Text} {effect : State → State × Reply}
    (h : ∀ t, (effect t).1 = t) : Answers s (.next (takeRequest s command effect)) :=
  answers_request fun t => by rw [h t]

theorem exec_powerUp_answers (rate : LinkRate) (address : Nat) (levels : Vector Bool 20) (s : State) :
    Answers s (exec (.powerUp rate address levels) s) := by
  refine answers_of_moves (.single (.powerUp _ _ _ fun i => ?_))
  rw [inputsAtPowerUp, Fin.getElem_fin, vectorOf_getElem, List.getElem?_map]
  cases Input.all[i.index.val]? <;> rfl

theorem exec_congestionTimerStep_answers (s : State) : Answers s (exec .congestionTimerStep s) := by
  have hcount : Moves s (deadlinesTenth (congestionStep (countTenth s))) :=
    (countTenth_moves s).trans ((setCongestion_moves _ _).trans (deadlinesTenth_moves _))
  have htimer : (deadlinesTenth (congestionStep (countTenth s))).belt.timer = encoderTenth s.belt.timer := by
    simp [congestionStep, countTenth]
  have halert : ∀ t, Moves t (if stallLastTenth s then stallAlert t else t)
      ∧ (if stallLastTenth s then stallAlert t else t).belt = t.belt := by
    intro t
    split
    · exact ⟨stallAlert_moves t, by simp⟩
    · exact ⟨.refl, rfl⟩
  obtain ⟨hmoves, hbelt⟩ := halert (deadlinesTenth (congestionStep (countTenth s)))
  refine answers_of_moves ((hcount.trans hmoves).trans ?_)
  by_cases hlast : encoderLastTenth s = true
  · rw [if_pos hlast]
    obtain ⟨n, hn⟩ := encoderLastTenth_running hlast
    refine (encoderExpiry_moves (n := n + 1) ?_).trans (settle_moves _)
    rw [hbelt, htimer, hn, encoderTenth]
  · rw [if_neg hlast]

theorem exec_readerAnswer_answers (r : Reader) (answer : Text) (s : State) :
    Answers s (exec (.readerAnswer r answer) s) := by
  change Answers s (execReaderAnswer r answer s)
  unfold execReaderAnswer
  split
  · split
    · split
      · exact answers_of_moves ((setReader_moves s r _).trans ((deliverOutcome_moves _ _ _).trans (settle_moves _)))
      · exact answers_of_moves (failAttempt_moves s r _)
    · exact answers_same s
  · exact answers_same s

theorem exec_diverterPulseEnd_answers (k : Station) (s : State) : Answers s (exec (.diverterPulseEnd k) s) := by
  change Answers s (execDiverterPulseEnd k s)
  unfold execDiverterPulseEnd
  split
  · refine answers_of_moves ?_
    split
    · refine .single (.diverters _ fun _ hoff j => ?_)
      have hoff' : s.returns.diverters[j.val] = .off := hoff j
      simp only [Fin.getElem_fin, Vector.getElem_set, hoff']
      split <;> rfl
    · exact .refl
  · exact answers_same s

theorem exec_ac_answers (fields : List Text) (s : State) : Answers s (exec (.ac fields) s) := by
  refine answers_request fun t => ?_
  split
  · exact clearAlerts_moves t _
  · split
    · exact clearAlerts_moves t _
    · exact .refl

theorem exec_am_answers (fields : List Text) (s : State) : Answers s (exec (.am fields) s) := by
  refine answers_request fun t => ?_
  split
  · exact .refl
  · split
    · exact .refl
    · exact setMask_moves t _

theorem exec_tk_answers (fields : List Text) (s : State) : Answers s (exec (.tk fields) s) := by
  refine answers_request fun t => ?_
  split
  · exact .refl
  · exact .head (.take _) (settle_moves _)

theorem exec_en_answers (fields : List Text) (s : State) : Answers s (exec (.en fields) s) := by
  refine answers_request fun t => ?_
  split
  · split
    · split
      · exact .refl
      · split
        · exact .refl
        · exact (setRow_moves t _ _).trans (settle_moves _)
    · exact .refl
  · exact .refl

theorem exec_dr_answers (fields : List Text) (s : State) : Answers s (exec (.dr fields) s) := by
  refine answers_request fun t => ?_
  split
  · exact .refl
  · split
    · exact .refl
    · split
      · exact .refl
      · split
        · exact .refl
        · exact (setRow_moves t _ _).trans (settle_moves _)

theorem exec_rt_answers (fields : List Text) (s : State) : Answers s (exec (.rt fields) s) := by
  refine answers_request fun t => ?_
  split
  · exact .refl
  · split
    · exact .refl
    · split
      · exact .refl
      · split
        · exact .refl
        · exact (setRow_moves t _ _).trans (settle_moves _)

theorem exec_mk_answers (fields : List Text) (s : State) : Answers s (exec (.mk fields) s) := by
  refine answers_request fun t => ?_
  split
  · split
    · split
      · exact .refl
      · split
        · exact setPlace_moves t _ _
        · exact .refl
    · exact .refl
  · exact .refl

theorem exec_ss_answers (fields : List Text) (s : State) : Answers s (exec (.ss fields) s) := by
  refine answers_request fun t => ?_
  split
  · exact .refl
  · split
    · exact .refl
    · split
      · exact .refl
      · exact .single (.returns _ t.returns.enRoute t.returns.pointers (.inl le_rfl))

theorem exec_ps_answers (fields : List Text) (s : State) : Answers s (exec (.ps fields) s) := by
  refine answers_request fun t => ?_
  split
  · exact .refl
  · split
    · exact .refl
    · exact (adoptSettings_moves t _ _).trans (settle_moves _)

/-- A report answers from the state and leaves it. -/
theorem withoutFields_report (fields : List Text) (answer : State → Reply) (t : State) :
    (withoutFields fields (fun u => (u, answer u)) t).1 = t := by
  cases fields <;> rfl

theorem exec_answers (c : Instr) (s : State) : Answers s (exec c s) := by
  cases c with
  | powerUp rate address levels => exact exec_powerUp_answers rate address levels s
  | forwardPulse => exact answers_of_moves ((forwardCount_moves s).trans (travelEvents_moves _ _))
  | reversePulse =>
    exact answers_of_moves ((setCounts_moves s s.belt.forwardAcc s.belt.odometer _ s.belt.reverseCount).trans
      (reverseMillimetres_moves _ _))
  | encStall =>
    refine answers_of_moves ?_
    split
    case isTrue hlast =>
      obtain ⟨n, hn⟩ := encoderLastTenth_running hlast
      exact (encoderExpiry_moves hn).trans (settle_moves _)
    case isFalse => exact .refl
  | inputLevelChange i high =>
    refine answers_of_moves (setChannel_moves s i _ fun hi => ?_)
    subst hi
    unfold levelTaken
    split <;> rfl
  | filterTimeReached i =>
    change Answers s (execFilterTimeReached i s)
    unfold execFilterTimeReached
    split
    · exact answers_of_moves (turned_moves s i)
    · exact answers_same s
  | readerAnswer r answer => exact exec_readerAnswer_answers r answer s
  | attemptTimeout r =>
    change Answers s (execAttemptTimeout r s)
    unfold execAttemptTimeout
    split
    · exact answers_of_moves (failAttempt_moves s r _)
    · exact answers_same s
  | pollPeriodStart =>
    change Answers s (execPollPeriodStart s)
    unfold execPollPeriodStart
    split
    · exact answers_same s
    · exact answers_of_moves (.single (.cycle _))
  | probeAnswer bytes =>
    change Answers s (execProbeAnswer bytes s)
    unfold execProbeAnswer
    split
    · split
      · exact answers_of_moves (endPoll_moves s _)
      · exact answers_same s
    · exact answers_same s
  | probeWaitExpiry => exact answers_of_moves (endPoll_moves s _)
  | tunnelStall =>
    refine answers_of_moves ?_
    split
    case isTrue hlast =>
      refine .head (.stall _ fun hidle => ?_) (stallAlert_moves _)
      rw [stallLastTenth, hidle] at hlast
      cases hlast
    case isFalse => exact .refl
  | rejectLampTimeout =>
    change Answers s (execRejectLampTimeout s)
    unfold execRejectLampTimeout
    split
    · refine answers_of_moves ?_
      split
      · exact setLamp_moves s _
      · exact .refl
    · exact answers_same s
  | diverterPulseEnd k => exact exec_diverterPulseEnd_answers k s
  | deadlineExpiry position => exact answers_of_moves (loseEntry_moves s position)
  | holdTimerExpiry b => exact answers_of_moves (holdTimerEnds_moves s b)
  | congestionTimerStep => exact exec_congestionTimerStep_answers s
  | loadCompletion =>
    change Answers s (execLoadCompletion s)
    unfold execLoadCompletion
    split
    · exact answers_of_moves (completeLoad_moves s _ _)
    all_goals exact answers_same s
  | saveCompletion readBack =>
    change Answers s (execSaveCompletion readBack s)
    unfold execSaveCompletion
    split
    · exact answers_of_moves (completeSave_moves s _ _)
    all_goals exact answers_same s
  | overlengthLine characters =>
    refine answers_of_moves ?_
    split
    · exact .single (.link _)
    · exact .refl
  | lineDiscarded line =>
    refine answers_of_moves ?_
    split
    · exact .single (.link _)
    · exact .refl
  | unknownCommand code fields =>
    refine answers_of_moves ?_
    split
    · exact .refl
    · exact takeRequest_moves s code _ fun _ => .refl
  | st fields => exact answers_report (withoutFields_report fields _)
  | al fields => exact answers_report (withoutFields_report fields _)
  | ac fields => exact exec_ac_answers fields s
  | am fields => exact exec_am_answers fields s
  | tk fields => exact exec_tk_answers fields s
  | tl fields => exact answers_report fun t => by split <;> rfl
  | rr fields => exact answers_report fun t => by split <;> (try split) <;> rfl
  | rs fields => exact answers_report fun t => by split <;> (try split) <;> rfl
  | en fields => exact exec_en_answers fields s
  | dr fields => exact exec_dr_answers fields s
  | rt fields => exact exec_rt_answers fields s
  | mk fields => exact exec_mk_answers fields s
  | ss fields => exact exec_ss_answers fields s
  | sq fields => exact answers_report (withoutFields_report fields _)
  | ps fields => exact exec_ps_answers fields s
  | pg fields => exact answers_report fun t => by split <;> rfl
  | go fields => exact answers_request (withoutFields_moves fields _ goEffect_moves)
  | sp fields => exact answers_request (withoutFields_moves fields _ spEffect_moves)
  | cr fields => exact answers_request (withoutFields_moves fields _ crEffect_moves)
  | hb fields => exact answers_request (withoutFields_moves fields _ fun t => setPause_moves t true)
  | hr fields =>
    exact answers_request (withoutFields_moves fields _ fun t => (setPause_moves t false).trans (settle_moves _))
  | ld fields => exact answers_request (withoutFields_moves fields _ ldEffect_moves)
  | sv fields => exact answers_request (withoutFields_moves fields _ svEffect_moves)
  | xr fields => exact answers_request (withoutFields_moves fields _ fun t => .single .lineReset)
  | dg fields => exact answers_report (withoutFields_report fields _)
  | replyEnd => exact answers_of_moves (.single (.link _))

/-- What every move keeps, every step keeps. -/
theorem step_keep {P : State → Prop} (hP : ∀ {s t : State}, Move s t → P s → P t)
    (hpending : ∀ (s : State) (rest : List Instr), P s → P { s with pending := rest }) {s t : State} (hs : P s)
    (h : step s = .next t) : P t := by
  unfold step at h
  split at h
  case h_1 => cases h; exact hs
  case h_2 c rest _ =>
    obtain ⟨u, hu, hmoves⟩ := exec_answers c { s with pending := rest }
    cases hu.symm.trans h
    exact hmoves.keep hP (hpending s rest hs)

end Sys2Proof.Proofs
end

section
/-! PROOFS. The line reset (R182): what XR leaves of every block. -/

namespace Sys2Proof.Proofs

open Sys2Proof.Machine Sys2Proof.Laws

/-! ## The closings of XR (R67) -/

/-- The wash records that XR makes of the records in the check and the list, in the order of the closings. -/
structure ClosedAtReset (slot : Option ExitRecord) (l : List TunnelRecord) (closed : List WashRecord) : Prop where
  exposures : closed.map (fun w => (w.rack, w.cls, w.dose, w.washTime)) =
    (slot.toList.map fun k => (k.rack, k.cls, k.dose, k.washTime))
      ++ (l.map fun r => (r.rack, r.cls, r.dose, r.washTime))
  reset : ∀ w ∈ closed, w.flags.reset = true ∧ w.verdict = .unknown ∧ w.exit = none

theorem ClosedAtReset.length_eq {slot : Option ExitRecord} {l : List TunnelRecord} {closed : List WashRecord}
    (h : ClosedAtReset slot l closed) : closed.length = countOf slot + l.length := by
  have hlen := congrArg List.length h.exposures
  simp only [List.length_map, List.length_append] at hlen
  rw [hlen]
  cases slot <;> simp [countOf]

theorem verdictOf_reset (c : Settings) (cls : Option RackClass) (dose wash : Nat) (f : Flags) (h : f.reset = true) :
    verdictOf c cls dose wash f = .unknown := by
  simp [verdictOf, Flags.unvouched, h]

theorem closeResetRecord_queue (s : State) (r : TunnelRecord) :
    (closeResetRecord s r).outbox.queue =
      s.outbox.queue ++ [washOfTunnel s r { r.flags with reset := true }] := by
  simp [closeResetRecord, fileRecord_outbox]

theorem foldl_closeResetRecord_queue (l : List TunnelRecord) (s : State) :
    ∃ closed, (l.foldl closeResetRecord s).outbox.queue = s.outbox.queue ++ closed
      ∧ ClosedAtReset none l closed := by
  induction l generalizing s with
  | nil => exact ⟨[], by simp, rfl, by simp⟩
  | cons r l ih =>
    obtain ⟨closed, hqueue, hfields, hreset⟩ := ih (closeResetRecord s r)
    refine ⟨washOfTunnel s r { r.flags with reset := true } :: closed, ?_, ?_, ?_⟩
    · rw [List.foldl_cons, hqueue, closeResetRecord_queue, List.append_assoc, List.singleton_append]
    · simpa [washOfTunnel] using hfields
    · rintro w (_ | ⟨_, hw⟩)
      · exact ⟨rfl, verdictOf_reset _ _ _ _ _ rfl, rfl⟩
      · exact hreset w hw

theorem closeResetSlot_queue (s : State) :
    ∃ closed, (closeResetSlot s).outbox.queue = s.outbox.queue ++ closed
      ∧ ClosedAtReset s.tunnel.slot [] closed := by
  unfold closeResetSlot
  split
  case h_1 hslot => exact ⟨[], by simp, by simp [hslot], by simp⟩
  case h_2 k hslot =>
    refine ⟨[washOfExit s k { k.flags with reset := true } none], ?_, by simp [hslot, washOfExit], ?_⟩
    · simp [fileRecord_outbox, washOfExit]
    · rintro w (_ | ⟨_, hw⟩)
      · exact ⟨rfl, verdictOf_reset _ _ _ _ _ rfl, rfl⟩
      · cases hw

theorem closeAllReset_queue (s : State) :
    ∃ closed, (closeAllReset s).outbox.queue = s.outbox.queue ++ closed
      ∧ ClosedAtReset s.tunnel.slot s.tunnel.list closed := by
  obtain ⟨first, hfirst, hslot, hresetFirst⟩ := closeResetSlot_queue s
  obtain ⟨rest, hrest, hlist, hresetRest⟩ := foldl_closeResetRecord_queue (closeResetSlot s).tunnel.list
    { closeResetSlot s with tunnel := { (closeResetSlot s).tunnel with list := [] } }
  refine ⟨first ++ rest, ?_, ?_, ?_⟩
  · rw [closeAllReset, hrest]
    simp [hfirst]
  · rw [List.map_append, hslot, hlist]
    simp
  · intro w hw
    rcases List.mem_append.mp hw with hw | hw
    · exact hresetFirst w hw
    · exact hresetRest w hw

@[simp] theorem closeAllReset_frame (s : State) :
    (closeAllReset s).inputs = s.inputs ∧ (closeAllReset s).readers = s.readers
      ∧ (closeAllReset s).stage = s.stage ∧ (closeAllReset s).tunnel.list = [] ∧ (closeAllReset s).rinse = s.rinse
      ∧ (closeAllReset s).pacing = s.pacing ∧ (closeAllReset s).returns = s.returns
      ∧ (closeAllReset s).tray = s.tray ∧ (closeAllReset s).sup.mask = s.sup.mask
      ∧ (closeAllReset s).sup.storeOp = s.sup.storeOp ∧ (closeAllReset s).sup.lastSave = s.sup.lastSave
      ∧ (closeAllReset s).link = s.link ∧ (closeAllReset s).settings = s.settings
      ∧ (closeAllReset s).store = s.store ∧ (closeAllReset s).freeIndex = s.freeIndex
      ∧ (closeAllReset s).pending = s.pending := by
  simp [closeAllReset, foldl_closeResetRecord_frame]

theorem closeAllReset_slot (s : State) : (closeAllReset s).tunnel.slot = none := by
  simp only [closeAllReset, foldl_closeResetRecord_frame]
  unfold closeResetSlot
  split
  case h_1 hslot => exact hslot
  case h_2 => simp

/-! ## The blocks after XR -/

@[simp] theorem clearApproach_frame (s : State) :
    (clearApproach s).inputs = s.inputs ∧ (clearApproach s).readers = s.readers ∧ (clearApproach s).stage = .empty
      ∧ (clearApproach s).tunnel = s.tunnel ∧ (clearApproach s).rinse = s.rinse
      ∧ (clearApproach s).pacing = s.pacing ∧ (clearApproach s).outbox = s.outbox
      ∧ (clearApproach s).returns.stations = s.returns.stations ∧ (clearApproach s).tray = s.tray
      ∧ (clearApproach s).sup = s.sup ∧ (clearApproach s).link = s.link ∧ (clearApproach s).settings = s.settings
      ∧ (clearApproach s).store = s.store ∧ (clearApproach s).freeIndex = s.freeIndex
      ∧ (clearApproach s).pending = s.pending := by
  unfold clearApproach
  dsimp only
  split <;> simp [setStage]

@[simp] theorem clearReturns_frame (s : State) :
    (clearReturns s).inputs = s.inputs ∧ (clearReturns s).readers = s.readers ∧ (clearReturns s).stage = s.stage
      ∧ (clearReturns s).tunnel = s.tunnel ∧ (clearReturns s).rinse = s.rinse ∧ (clearReturns s).pacing = s.pacing
      ∧ (clearReturns s).outbox = s.outbox
      ∧ (clearReturns s).returns =
          { stations := s.returns.stations, enRoute := [],
            pointers := { plate := 3, cup := 3, cutlery := 3, tray := 3 }, diverters := Vector.replicate 4 .off,
            returnBelt := false }
      ∧ (clearReturns s).tray = s.tray ∧ (clearReturns s).sup = s.sup ∧ (clearReturns s).link = s.link
      ∧ (clearReturns s).settings = s.settings ∧ (clearReturns s).store = s.store
      ∧ (clearReturns s).freeIndex = s.freeIndex ∧ (clearReturns s).pending = s.pending := by
  simp [clearReturns, foldl_setPlaceOf_frame]

/-- The rows, the lists and the readers as XR leaves them, the belt tracker, the supervisor and the rest not yet reset
(R28, R44, R67, R131, R146). -/
def listsReset (s : State) : State :=
  let t := clearReturns (clearApproach (closeAllReset s))
  lampOff (endReads { t with registry := vectorMap (Option.map rowAtReset) t.registry })

@[simp] theorem listsReset_frame (s : State) :
    (listsReset s).inputs = s.inputs ∧ (listsReset s).stage = .empty
      ∧ (listsReset s).tunnel = { list := [], slot := none, lamp := .off }
      ∧ (listsReset s).readers = {
          entry := { s.readers.entry with attempt := none }
          exit := { s.readers.exit with attempt := none }
          ret := { s.readers.ret with attempt := none } }
      ∧ (listsReset s).rinse = s.rinse
      ∧ (listsReset s).pacing = s.pacing ∧ (listsReset s).outbox = (closeAllReset s).outbox
      ∧ (listsReset s).returns =
          { stations := s.returns.stations, enRoute := [],
            pointers := { plate := 3, cup := 3, cutlery := 3, tray := 3 }, diverters := Vector.replicate 4 .off,
            returnBelt := false }
      ∧ (listsReset s).tray = s.tray ∧ (listsReset s).sup.mask = s.sup.mask
      ∧ (listsReset s).sup.storeOp = s.sup.storeOp ∧ (listsReset s).sup.lastSave = s.sup.lastSave
      ∧ (listsReset s).link = s.link
      ∧ (listsReset s).settings = s.settings ∧ (listsReset s).store = s.store
      ∧ (listsReset s).freeIndex = s.freeIndex ∧ (listsReset s).pending = s.pending := by
  simp [listsReset, lampOff, endReads, closeAllReset_slot]

/-- With the stage EMPTY and no outcome held, admission control starts again by the approach eye alone (R44). -/
theorem approachAfterReset_eq (s : State) :
    approachAfterReset s =
      if isActive s .ap then startRead (setStage s .reading) .entry else setStage s .empty := by
  have hap : isActive (setStage s .reading) .ap = isActive s .ap := rfl
  simp only [approachAfterReset, resumeApproach, requestRead, gateEye, hap]
  split <;> rfl

theorem outboxHighAfterReset_frame (s : State) :
    (outboxHighAfterReset s).belt = s.belt ∧ (outboxHighAfterReset s).inputs = s.inputs
      ∧ (outboxHighAfterReset s).readers = s.readers ∧ (outboxHighAfterReset s).stage = s.stage
      ∧ (outboxHighAfterReset s).tunnel = s.tunnel ∧ (outboxHighAfterReset s).rinse = s.rinse
      ∧ (outboxHighAfterReset s).pacing = s.pacing ∧ (outboxHighAfterReset s).outbox = s.outbox
      ∧ (outboxHighAfterReset s).registry = s.registry ∧ (outboxHighAfterReset s).returns = s.returns
      ∧ (outboxHighAfterReset s).tray = s.tray ∧ (outboxHighAfterReset s).sup.mode = s.sup.mode
      ∧ (outboxHighAfterReset s).sup.draining = s.sup.draining ∧ (outboxHighAfterReset s).sup.runOn = s.sup.runOn
      ∧ (outboxHighAfterReset s).sup.lineHeld = s.sup.lineHeld ∧ (outboxHighAfterReset s).sup.mask = s.sup.mask
      ∧ (outboxHighAfterReset s).sup.storeOp = s.sup.storeOp
      ∧ (outboxHighAfterReset s).sup.lastSave = s.sup.lastSave ∧ (outboxHighAfterReset s).link = s.link
      ∧ (outboxHighAfterReset s).settings = s.settings ∧ (outboxHighAfterReset s).store = s.store
      ∧ (outboxHighAfterReset s).freeIndex = s.freeIndex ∧ (outboxHighAfterReset s).pending = s.pending := by
  unfold outboxHighAfterReset
  split <;> simp [raise, raiseMarked, refreshAlertOutput]

theorem lineReset_eq (s : State) :
    lineReset s = outboxHighAfterReset (approachAfterReset (resetSupervisor (resetBlocks (listsReset s)))) := rfl

/-- Every block after XR but the registry and the alerts. -/
theorem lineReset_blocks (s : State) :
    (lineReset s).belt = { forwardAcc := 0, odometer := 0, reverseAcc := 0, reverseCount := 0, timer := .idle }
      ∧ (lineReset s).inputs = s.inputs
      ∧ (lineReset s).stage = (if isActive s .ap then .reading else .empty)
      ∧ (lineReset s).tunnel = { list := [], slot := none, lamp := .off }
      ∧ (lineReset s).rinse = { cycle := s.rinse.cycle, rinse := headAtStart, wash := headAtStart }
      ∧ (lineReset s).pacing =
          { exitCause := isActive s .tf, doorCause := isActive s .d1 || isActive s .d2 || isActive s .d3,
            pauseCause := false, speedDemand := par s .vnom, beltRun := false, setPoint := 0, valveOpen := false,
            stallTimer := .idle, longestOverrun := s.pacing.longestOverrun }
      ∧ (lineReset s).outbox = (closeAllReset s).outbox
      ∧ (lineReset s).returns =
          { stations := s.returns.stations, enRoute := [],
            pointers := { plate := 3, cup := 3, cutlery := 3, tray := 3 }, diverters := Vector.replicate 4 .off,
            returnBelt := false }
      ∧ (lineReset s).tray =
          { north := { s.tray.north with state := .stoppedLine, holdCount := 0 }
            south := { s.tray.south with state := .stoppedLine, holdCount := 0 }
            lineHeld := true, congestionTimer := 0, congested := false }
      ∧ (lineReset s).link = s.link ∧ (lineReset s).settings = s.settings ∧ (lineReset s).store = s.store
      ∧ (lineReset s).pending = s.pending := by
  have hactive : ∀ i, isActive (listsReset s) i = isActive s i := fun i => by simp [isActive, channel]
  have hap : isActive (resetSupervisor (resetBlocks (listsReset s))) .ap = isActive s .ap := hactive .ap
  have hvnom : par (listsReset s) .vnom = par s .vnom := by simp [par]
  simp only [lineReset_eq, outboxHighAfterReset_frame, approachAfterReset_eq, hap]
  split <;> simp [resetSupervisor, resetBlocks, hactive, hvnom, setStage, refreshAlertOutput]

/-- The supervisor after XR but for its alerts (R171). -/
theorem lineReset_sup (s : State) :
    (lineReset s).sup.mode = .loading ∧ (lineReset s).sup.draining = false ∧ (lineReset s).sup.runOn = 0
      ∧ (lineReset s).sup.lineHeld = true ∧ (lineReset s).sup.mask = s.sup.mask
      ∧ (lineReset s).sup.storeOp = .loading (loadAtReset s.sup.storeOp)
      ∧ (lineReset s).sup.lastSave = saveResultAtReset s.sup := by
  have hlast : saveResultAtReset (listsReset s).sup = saveResultAtReset s.sup := by simp [saveResultAtReset]
  simp only [lineReset_eq, outboxHighAfterReset_frame, approachAfterReset_eq]
  split <;> simp [resetSupervisor, resetBlocks, refreshAlertOutput, hlast]

theorem lineReset_readers (s : State) :
    (lineReset s).readers = {
      entry := { s.readers.entry with attempt := if isActive s .ap then some 1 else none }
      exit := { s.readers.exit with attempt := none }
      ret := { s.readers.ret with attempt := none } } := by
  have hap : isActive (resetSupervisor (resetBlocks (listsReset s))) .ap = isActive s .ap := by
    simp [isActive, channel, resetSupervisor, resetBlocks, refreshAlertOutput]
  simp only [lineReset_eq, outboxHighAfterReset_frame, approachAfterReset_eq, hap]
  split <;> simp [startRead, reader, setReader, setStage, resetSupervisor, resetBlocks, refreshAlertOutput]

/-- The alerts and the ALERT output after XR: every kind is clear but OUTBOX_HIGH, which is raised afresh where the
outbox asks for it (R113, R171). -/
theorem lineReset_alerts (s : State) :
    AlertOutputRight (lineReset s)
      ∧ (∀ k : AlertKind, k ≠ .outboxHigh → alert (lineReset s) k = none)
      ∧ alert (lineReset s) .outboxHigh =
          (if 80 ≤ (lineReset s).outbox.queue.length then some (latchedBy 0 none false none) else none) := by
  let t := approachAfterReset (resetSupervisor (resetBlocks (listsReset s)))
  have hsup : t.sup = (resetSupervisor (resetBlocks (listsReset s))).sup := by
    simp only [t, approachAfterReset_eq]
    split <;> simp
  have hodometer : t.belt.odometer = 0 := by
    simp only [t, approachAfterReset_eq]
    split <;> simp [resetSupervisor, resetBlocks, refreshAlertOutput]
  have hclear : ∀ k, alert t k = none := by
    intro k
    simp [alert, hsup, resetSupervisor, refreshAlertOutput]
  have hright : AlertOutputRight t := by
    unfold AlertOutputRight alert
    rw [hsup]
    exact refreshAlertOutput_right _
  change AlertOutputRight (outboxHighAfterReset t) ∧ (∀ k, k ≠ AlertKind.outboxHigh → alert (outboxHighAfterReset t) k = none)
    ∧ alert (outboxHighAfterReset t) .outboxHigh =
      if 80 ≤ (outboxHighAfterReset t).outbox.queue.length then _ else _
  simp only [outboxHighAfterReset_frame]
  unfold outboxHighAfterReset
  rw [show Config.outboxHigh = 80 from rfl]
  split
  · refine ⟨raise_alertOutputRight t _ _ _, fun k hk => ?_, ?_⟩
    · rw [alert_raise, if_neg fun h => hk h.symm, hclear]
    · rw [alert_raise, if_pos rfl, hclear, hodometer]
  · exact ⟨hright, fun k _ => hclear k, hclear _⟩

/-! ## The registry after XR (R131) -/

/-- Every rack has the class that it had, or is vacant as it was. -/
def SameClasses (s t : State) : Prop := ∀ m : Rack, (row t m).map Row.cls = (row s m).map Row.cls

theorem SameClasses.of_registry {s t : State} (h : t.registry = s.registry) : SameClasses s t := fun m => by
  rw [row, row, h]

theorem SameClasses.trans {s t u : State} (hst : SameClasses s t) (htu : SameClasses t u) : SameClasses s u :=
  fun m => (htu m).trans (hst m)

theorem setPlace_sameClasses (s : State) (n : Rack) (p : Place) : SameClasses s (setPlace s n p) := by
  intro m
  rw [row_setPlace]
  split
  · cases row s m <;> rfl
  · rfl

theorem setPlaceOf_sameClasses (s : State) (n : Option Rack) (p : Place) : SameClasses s (setPlaceOf s n p) := by
  cases n with
  | none => exact fun _ => rfl
  | some n => exact setPlace_sameClasses s n p

theorem fileRecord_sameClasses (s : State) (w : WashRecord) : SameClasses s (fileRecord s w) := by
  intro m
  rw [row_fileRecord]
  split
  · cases row s m <;> rfl
  · rfl

theorem foldl_sameClasses {α : Type} {f : State → α → State} (hf : ∀ s a, SameClasses s (f s a)) (l : List α)
    (s : State) : SameClasses s (l.foldl f s) := by
  induction l generalizing s with
  | nil => exact fun _ => rfl
  | cons a l ih => exact (hf s a).trans (ih _)

theorem closeAllReset_sameClasses (s : State) : SameClasses s (closeAllReset s) := by
  have hslot : SameClasses s (closeResetSlot s) := by
    unfold closeResetSlot
    split
    · exact fun _ => rfl
    · exact (fileRecord_sameClasses { s with tunnel := { s.tunnel with slot := none } } _).trans
        (setPlaceOf_sameClasses _ _ _)
  exact hslot.trans (foldl_sameClasses
    (fun t r => (fileRecord_sameClasses t _).trans (setPlaceOf_sameClasses _ _ _)) _
    { closeResetSlot s with tunnel := { (closeResetSlot s).tunnel with list := [] } })

theorem dropHeld_sameClasses (s : State) (held : Option ReadOutcome) (kept : Option Rack) :
    SameClasses s (dropHeld s held kept) := by
  unfold dropHeld leaveStop
  split
  · split
    · exact fun _ => rfl
    · dsimp only
      split
      · exact setPlace_sameClasses (removeEnRoute s _) _ _
      · exact fun _ => rfl
  all_goals exact fun _ => rfl

theorem clearApproach_sameClasses (s : State) : SameClasses s (clearApproach s) := by
  unfold clearApproach
  dsimp only
  split
  · exact (setPlaceOf_sameClasses s _ _).trans (dropHeld_sameClasses _ _ _)
  · exact setPlaceOf_sameClasses s _ _
  · exact fun _ => rfl
  · exact fun _ => rfl

theorem clearReturns_sameClasses (s : State) : SameClasses s (clearReturns s) :=
  foldl_sameClasses (fun t (e : EnRoute) => setPlaceOf_sameClasses t e.rack .unseen) _ s

theorem lineReset_row (s : State) (m : Rack) :
    row (lineReset s) m = (row (clearReturns (clearApproach (closeAllReset s))) m).map rowAtReset := by
  have hregistry : (lineReset s).registry = (listsReset s).registry := by
    simp only [lineReset_eq, outboxHighAfterReset_frame, approachAfterReset_eq]
    split <;> simp [resetSupervisor, resetBlocks, refreshAlertOutput]
  rw [row, hregistry]
  simp [listsReset, lampOff, endReads, row, vectorMap_getElem]

theorem rowAtReset_cls (w : Row) : (rowAtReset w).cls = w.cls := by
  unfold rowAtReset
  split <;> rfl

/-- No row that XR leaves is placed in a collection or QUEUED (R131). -/
theorem rowAtReset_place (w : Row) :
    (rowAtReset w).place ≠ .queued ∧ (rowAtReset w).place ≠ .admitting ∧ (rowAtReset w).place ≠ .inTunnel
      ∧ (rowAtReset w).place ≠ .atExit ∧ (rowAtReset w).place ≠ .onReturn := by
  unfold rowAtReset
  split
  case isTrue => simp
  case isFalse h =>
    refine ⟨?_, ?_, ?_, ?_, ?_⟩ <;> (intro hp; exact h (by simp [hp, heldPlace]))

theorem lineReset_rows (s : State) (m : Rack) :
    (row (lineReset s) m).map Row.cls = (row s m).map Row.cls
      ∧ ∀ w, row (lineReset s) m = some w → w.place ≠ .queued ∧ w.place ≠ .admitting ∧ w.place ≠ .inTunnel
          ∧ w.place ≠ .atExit ∧ w.place ≠ .onReturn := by
  rw [lineReset_row]
  refine ⟨?_, fun w hw => ?_⟩
  · have hsame := ((closeAllReset_sameClasses s).trans (clearApproach_sameClasses _)).trans
      (clearReturns_sameClasses _) m
    rw [← hsame, Option.map_map]
    congr 1
    exact funext rowAtReset_cls
  · obtain ⟨v, -, rfl⟩ := Option.map_eq_some_iff.mp hw
    exact rowAtReset_place v

/-- The state with the receive buffer idle, in which a request has its effect (R172). -/
def idleBuffer (s : State) : State := { s with link := { s.link with buffer := .idle } }

theorem exec_xr {s : State} (h : linkQuiet s) :
    exec (.xr []) s = .next (sendReply (lineReset (idleBuffer s)) "XR".toList okay) :=
  congrArg Host.Outcome.next (takeRequest_quiet s _ _ h)

theorem saveResultAtReset_saving {u : Supervisor} {i : StoreImage} (h : u.storeOp = .saving i) :
    saveResultAtReset u = .none := by
  rw [saveResultAtReset, h]

theorem saveResultAtReset_kept {u : Supervisor} (h : ∀ i, u.storeOp ≠ .saving i) :
    saveResultAtReset u = u.lastSave := by
  unfold saveResultAtReset
  split
  case h_1 i hi => exact absurd hi (h i)
  all_goals rfl

/-- Settles O46: the blocks that XR leaves, and the wash records of its closings. -/
theorem xrResetsEveryBlock : Obligations.XrResetsEveryBlock := by
  intro s hquiet
  obtain ⟨closed, hqueue, hexposures, hreset⟩ := closeAllReset_queue (idleBuffer s)
  obtain ⟨hbelt, hinputs, hstage, htunnel, hrinse, hpacing, houtbox, hreturns, htray, hlink, hsettings, hstore, -⟩ :=
    lineReset_blocks (idleBuffer s)
  obtain ⟨hmode, hdraining, hrunOn, hheld, hmask, hop, hlast⟩ := lineReset_sup (idleBuffer s)
  obtain ⟨-, hclear, hhigh⟩ := lineReset_alerts (idleBuffer s)
  have hreaders := lineReset_readers (idleBuffer s)
  have hrows := lineReset_rows (idleBuffer s)
  have hexec := exec_xr hquiet
  rw [← houtbox] at hqueue
  generalize lineReset (idleBuffer s) = t at *
  refine ⟨sendReply t "XR".toList okay, closed, hexec, hqueue, hexposures, hreset, htunnel, hstage, hbelt, hrinse,
    hpacing, hreturns, hmode, hdraining, hrunOn, hheld, hmask, ⟨_, hop⟩, hclear, ?_, hrows, htray,
    fun hsave => hlast.trans (saveResultAtReset_kept hsave), fun i hsave => hlast.trans (saveResultAtReset_saving hsave),
    congrArg Readers.entry hreaders, congrArg Readers.exit hreaders, congrArg Readers.ret hreaders, ?_, hinputs,
    hsettings, hstore⟩
  · change if 80 ≤ t.outbox.queue.length then
      ∃ e, alert t .outboxHigh = some e ∧ e.count = 1 ∧ e.lastRack = none
      else alert t .outboxHigh = none
    rw [hhigh]
    split
    · exact ⟨_, rfl, rfl, rfl⟩
    · rfl
  · simp [sendReply, hlink, answered, okay, idleBuffer]

end Sys2Proof.Proofs
end

section
/-! PROOFS. The belt outputs (section 6.2, R94): every move keeps them with the mode and the hold set. And that every
command completes. -/

namespace Sys2Proof.Proofs

open Sys2Proof.Machine Sys2Proof.Laws

/-! ## The queue, and that every command completes -/

theorem Move.keeps_pending {s t : State} (h : Move s t) : t.pending = s.pending := by
  cases h
  case lineReset => obtain ⟨-, -, -, -, -, -, -, -, -, -, -, -, hpending⟩ := lineReset_blocks s; exact hpending
  case file => simp
  case mode => simp
  case encoder => simp [atTimer]
  case holds => simp
  all_goals rfl

theorem Moves.keeps_pending {s t : State} (h : Moves s t) : t.pending = s.pending :=
  h.keep (P := fun u => u.pending = s.pending) (fun hmove hs => hmove.keeps_pending.trans hs) rfl

/-- Settles O2: a command answers a state that moves lead to, and no move touches the queue. -/
theorem everyCommandCompletes : Obligations.EveryCommandCompletes := by
  intro c s
  obtain ⟨t, hnext, hmoves⟩ := exec_answers c s
  exact ⟨t, hnext, hmoves.keeps_pending⟩

/-! ## The outputs that follow the run output -/

/-- The valve, the set point and the two timers of the belt follow the run output as it stands (R8, R95, R97,
R101). -/
structure FollowRun (s : State) : Prop where
  valve   : s.pacing.valveOpen = s.pacing.beltRun
  point   : s.pacing.setPoint = if s.pacing.beltRun then s.pacing.speedDemand else 0
  encoder : if s.pacing.beltRun then ∃ n, s.belt.timer = .running n else s.belt.timer = .idle
  stall   : s.pacing.beltRun = true → s.pacing.stallTimer = .idle

theorem outputsFollow_iff (s : State) :
    OutputsFollow s ↔ s.pacing.beltRun = beltShouldRun s ∧ FollowRun s :=
  ⟨fun ⟨hrun, hvalve, hpoint, hencoder, hstall⟩ => ⟨hrun, hvalve, hpoint, hencoder, hstall⟩,
    fun ⟨hrun, hvalve, hpoint, hencoder, hstall⟩ => ⟨hrun, hvalve, hpoint, hencoder, hstall⟩⟩

theorem followRun_of_outputs {s : State} (h : OutputsFollow s) : FollowRun s := ((outputsFollow_iff s).mp h).2

/-- What the belt outputs rest on. -/
theorem outputsFollow_of_same {s t : State} (h : OutputsFollow s) (hpacing : t.pacing = s.pacing)
    (hrinse : t.rinse = s.rinse) (hmode : t.sup.mode = s.sup.mode) (htimer : t.belt.timer = s.belt.timer) :
    OutputsFollow t := by
  obtain ⟨hrun, hvalve, hpoint, hencoder, hstall⟩ := h
  refine ⟨?_, by rw [hpacing, hvalve], by rw [hpacing, hpoint], by rw [hpacing, htimer]; exact hencoder,
    by rw [hpacing]; exact hstall⟩
  simp only [holdSetEmpty] at hrun ⊢
  rw [hpacing, hrinse, hmode, hrun]

/-- A stopped belt has its outputs off, whatever they rest on. -/
theorem outputsFollow_stopped {s : State} (hrun : s.pacing.beltRun = false) (hvalve : s.pacing.valveOpen = false)
    (hpoint : s.pacing.setPoint = 0) (htimer : s.belt.timer = .idle) (hshould : beltShouldRun s = false) :
    OutputsFollow s :=
  ⟨hrun.trans hshould.symm, hvalve.trans hrun.symm, by simp [hrun, hpoint], by simp [hrun, htimer], by simp [hrun]⟩

theorem beltOn_outputs {s : State} (h : beltShouldRun s = true) : OutputsFollow (beltOn s) :=
  ⟨h.symm, rfl, rfl, ⟨0, rfl⟩, fun _ => rfl⟩

theorem beltOff_outputs {s : State} (h : beltShouldRun s = false) : OutputsFollow (beltOff s) :=
  outputsFollow_stopped rfl rfl rfl rfl h

/-- The run output recomputed takes the others with it (R94). -/
theorem recomputeBelt_outputs {s : State} (h : FollowRun s) : OutputsFollow (recomputeBelt s) := by
  unfold recomputeBelt
  split
  case isTrue hsame => exact (outputsFollow_iff s).mpr ⟨hsame.symm, h⟩
  case isFalse hchanges =>
    split
    case isTrue hon => exact beltOn_outputs hon
    case isFalse hoff => exact beltOff_outputs (Bool.eq_false_iff.mpr hoff)

/-- The state with the mode replaced and no block told of it yet. -/
def atMode (s : State) (m : LineMode) : State :=
  { s with sup := { s.sup with mode := m, runOn := if m = .run then 0 else s.sup.runOn } }

/-- A change of mode does to the belt what its outputs ask in the new mode (R94, R157). -/
theorem changeMode_belt (s : State) (m : LineMode) :
    (changeMode s m).pacing = (recomputeBelt (atMode s m)).pacing
      ∧ (changeMode s m).belt = (recomputeBelt (atMode s m)).belt := by
  unfold changeMode
  dsimp only
  split <;> exact ⟨rfl, rfl⟩

theorem changeMode_outputs {s : State} (m : LineMode) (h : FollowRun s) : OutputsFollow (changeMode s m) := by
  obtain ⟨hpacing, hbelt⟩ := changeMode_belt s m
  have hfollow : FollowRun (atMode s m) := ⟨h.valve, h.point, h.encoder, h.stall⟩
  exact outputsFollow_of_same (recomputeBelt_outputs hfollow) hpacing (by simp [atMode]) (by simp [changeMode_sup, atMode])
    (by rw [hbelt])

theorem holdsChanged_outputs {before s : State} (h : FollowRun s) : OutputsFollow (holdsChanged before s) := by
  unfold holdsChanged
  split
  · exact recomputeBelt_outputs h
  · exact recomputeBelt_outputs ⟨h.valve, h.point, h.encoder, h.stall⟩

/-- The encoder-stall timer runs only while the belt does, so its expiry finds the belt running, and the halt stops
it (R9). -/
theorem encoderHalt_outputs {s : State} {n : Nat} (h : OutputsFollow s) (htimer : s.belt.timer = .running n) :
    OutputsFollow (changeMode (atTimer s .expired) (.halt .encStall)) := by
  obtain ⟨hpacing, hbelt⟩ := changeMode_belt (atTimer s .expired) (.halt .encStall)
  have hrun : s.pacing.beltRun = true := by
    have hencoder := h.encoder
    cases hb : s.pacing.beltRun <;> simp_all
  have hstops : recomputeBelt (atMode (atTimer s .expired) (.halt .encStall))
      = beltOff (atMode (atTimer s .expired) (.halt .encStall)) := by
    simp [recomputeBelt, beltShouldRun, atMode, atTimer, hrun]
  refine outputsFollow_stopped ?_ ?_ ?_ ?_ ?_
  · rw [hpacing, hstops]; rfl
  · rw [hpacing, hstops]; rfl
  · rw [hpacing, hstops]; rfl
  · rw [hbelt, hstops]; rfl
  · simp [beltShouldRun, changeMode_sup]

/-- A record that joins the list loads the stall timer on a stopped belt alone (R101). -/
theorem appendTunnelRecord_outputs {s : State} (r : TunnelRecord) (h : OutputsFollow s) :
    OutputsFollow (appendTunnelRecord s r) := by
  obtain ⟨hrun, hvalve, hpoint, hencoder, hstall⟩ := h
  refine ⟨hrun, hvalve, hpoint, hencoder, fun hb => ?_⟩
  have hon : s.pacing.beltRun = true := hb
  simp [appendTunnelRecord, hon, hstall hon]

/-- A running belt runs in RUN, where the encoder-stall timer goes on running; a stopped one leaves it IDLE. -/
theorem beltCounts_outputs {s : State} (b : Belt) (hidle : s.belt.timer = .idle → b.timer = .idle)
    (hrun : s.sup.mode = .run → ∀ n, s.belt.timer = .running n → ∃ m, b.timer = .running m) (h : OutputsFollow s) :
    OutputsFollow { s with belt := b } := by
  refine ⟨h.run, h.valve, h.point, ?_, h.stall⟩
  have hfollows := h.run
  have hencoder := h.encoder
  change if s.pacing.beltRun then ∃ n, b.timer = .running n else b.timer = .idle
  cases hb : s.pacing.beltRun with
  | true =>
    rw [hb, if_pos rfl] at hencoder
    obtain ⟨n, hn⟩ := hencoder
    have hmode : s.sup.mode = .run := by simp_all
    simpa using hrun hmode n hn
  | false =>
    rw [hb] at hencoder
    simpa using hidle hencoder

theorem Move.keeps_outputs {s t : State} (hmove : Move s t) (h : OutputsFollow s) : OutputsFollow t := by
  obtain ⟨hrun, hvalve, hpoint, hencoder, hstall⟩ := id h
  cases hmove with
  | powerUp => exact outputsFollow_stopped rfl rfl rfl rfl rfl
  | lineReset =>
    obtain ⟨hbelt, -, -, -, -, hpacing, -⟩ := lineReset_blocks s
    obtain ⟨hmode, -⟩ := lineReset_sup s
    exact outputsFollow_stopped (by rw [hpacing]) (by rw [hpacing]) (by rw [hpacing]) (by rw [hbelt])
      (by rw [beltShouldRun, hmode]; rfl)
  | enter r _ => exact outputsFollow_of_same (appendTunnelRecord_outputs r h) rfl rfl rfl rfl
  | force r => exact appendTunnelRecord_outputs r h
  | file => exact outputsFollow_of_same h (by simp) (by simp) (by simp) (by simp)
  | mode m => exact changeMode_outputs m (followRun_of_outputs h)
  | cause c hhalt =>
    have hstands : s.pacing.beltRun = false := by
      rw [hrun]
      cases hm : s.sup.mode <;> simp_all [LineMode.isHalt]
    exact outputsFollow_stopped hstands (hvalve.trans hstands) (by simpa [hstands] using hpoint)
      (by simpa [hstands] using hencoder) rfl
  | encoder n htimer => exact encoderHalt_outputs h htimer
  | holds => exact holdsChanged_outputs ⟨hvalve, hpoint, hencoder, hstall⟩
  | cycle => exact ⟨hrun, hvalve, hpoint, hencoder, hstall⟩
  | demand d =>
    refine ⟨hrun, hvalve, ?_, hencoder, hstall⟩
    change (if s.pacing.beltRun then d else s.pacing.setPoint) = if s.pacing.beltRun then d else 0
    rw [hpoint]
    split <;> rfl
  | belt b hidle hruns => exact beltCounts_outputs b hidle hruns h
  | stall x hidle => exact ⟨hrun, hvalve, hpoint, hencoder, fun hb => hidle (hstall hb)⟩
  | _ => exact outputsFollow_of_same h rfl rfl rfl rfl

/-- Settles O55: every move keeps the outputs, and every step is made of moves. -/
theorem everyStepKeepsTheBeltOutputs : Obligations.EveryStepKeepsTheBeltOutputs :=
  fun _ _ hs hstep => step_keep Move.keeps_outputs (fun _ _ h => outputsFollow_of_same h rfl rfl rfl rfl) hs hstep

end Sys2Proof.Proofs
end

section
/-! PROOFS. The limits of the lists (R49, R110, R136) and the serials of the outbox (R109): every move keeps them. -/

namespace Sys2Proof.Proofs

open Sys2Proof.Machine Sys2Proof.Laws

/-! ## The limits -/

/-- The reservation by what the blocks hold (R110). -/
theorem reservation_eq (s : State) :
    reservation s = tunnelCount s.tunnel + countOf s.stage.pending? + s.outbox.queue.length := by
  simp only [reservation, tunnelCount]
  omega

theorem countOf_le_one {α : Type} (x : Option α) : countOf x ≤ 1 := by
  unfold countOf
  split <;> omega

theorem withinLimits_of_same {s t : State} (h : WithinLimits s) (hstage : t.stage = s.stage)
    (htunnel : t.tunnel = s.tunnel) (houtbox : t.outbox = s.outbox)
    (henRoute : t.returns.enRoute = s.returns.enRoute) : WithinLimits t := by
  obtain ⟨hreservation, hlist, hen⟩ := h
  exact ⟨by rw [reservation, hstage, htunnel, houtbox]; exact hreservation, by rw [hstage, htunnel]; exact hlist,
    by rw [henRoute]; exact hen⟩

/-- XR moves every record of the tunnel and the check into the outbox, so the reservation does not rise (R67). -/
theorem lineReset_limits {s : State} (h : WithinLimits s) : WithinLimits (lineReset s) := by
  obtain ⟨-, -, hstage, htunnel, -, -, houtbox, hreturns, -⟩ := lineReset_blocks s
  obtain ⟨closed, hqueue, hclosed⟩ := closeAllReset_queue s
  have hpending : (lineReset s).stage.pending? = none := by
    rw [hstage]
    split <;> rfl
  have hreservation := h.reservation
  have hlength := hclosed.length_eq
  rw [reservation] at hreservation
  refine ⟨?_, ?_, ?_⟩
  · simp only [reservation, htunnel, hpending, houtbox, hqueue, List.length_append, List.length_nil, countOf] at *
    simp only [Option.isSome_none, Bool.false_eq_true, if_false]
    omega
  · simp [htunnel, hpending, countOf]
  · simp [hreturns]

theorem Move.keeps_limits {s t : State} (hmove : Move s t) (h : WithinLimits s) : WithinLimits t := by
  obtain ⟨hreservation, hlist, hen⟩ := id h
  rw [reservation_eq] at hreservation
  cases hmove with
  | powerUp => exact ⟨Nat.zero_le 96, Nat.zero_le 16, Nat.zero_le 24⟩
  | lineReset => exact lineReset_limits h
  | stage g hg =>
    refine ⟨?_, ?_, hen⟩
    · rw [reservation_eq]; simp only [setStage]; omega
    · simp only [setStage]; omega
  | pending p n held hroom hreserved =>
    rw [reservation_eq] at hreserved
    have hone : countOf (Stage.admitting p n held).pending? = 1 := rfl
    refine ⟨?_, ?_, hen⟩
    · rw [reservation_eq]; simp only [setStage, hone]; omega
    · simp only [setStage, hone]; omega
  | enter r hpending =>
    have hone : countOf s.stage.pending? = 1 := if_pos hpending
    have hnone : countOf Stage.reading.pending? = 0 := rfl
    refine ⟨?_, ?_, hen⟩
    · rw [reservation_eq]
      simp only [tunnelCount] at hreservation
      simp only [setStage, appendTunnelRecord, tunnelCount, List.length_append, List.length_singleton, hnone]
      omega
    · simp only [setStage, appendTunnelRecord, List.length_append, List.length_singleton, hnone]
      omega
  | force r hstage hroom hreserved =>
    have hnone : countOf s.stage.pending? = 0 := by rw [hstage]; rfl
    rw [reservation_eq, tunnelCount] at hreserved
    refine ⟨?_, ?_, hen⟩
    · rw [reservation_eq]
      simp only [appendTunnelRecord, tunnelCount, List.length_append, List.length_singleton]
      omega
    · simp only [appendTunnelRecord, List.length_append, List.length_singleton, hnone]
      omega
  | tunnel t' hshorter hfewer =>
    refine ⟨?_, ?_, hen⟩
    · rw [reservation_eq]; dsimp only; omega
    · dsimp only; omega
  | extra k hreserved =>
    rw [reservation_eq, tunnelCount] at hreserved
    refine ⟨?_, hlist, hen⟩
    have hone := countOf_le_one (some k)
    rw [reservation_eq]
    simp only [setSlot, tunnelCount]
    omega
  | file t' w hshorter hfewer =>
    refine ⟨?_, ?_, ?_⟩
    · rw [reservation_eq, appendRecord_outbox]
      simp only [appendRecord_frame, List.length_append, List.length_singleton]
      omega
    · simp only [appendRecord_frame]; omega
    · simpa using hen
  | take n =>
    refine ⟨?_, hlist, hen⟩
    rw [reservation_eq]
    simp only [dropRecords, List.length_drop]
    omega
  | mode => exact withinLimits_of_same h (by simp) (by simp) (by simp) (by simp)
  | encoder =>
    exact withinLimits_of_same h (by simp [atTimer]) (by simp [atTimer]) (by simp [atTimer]) (by simp [atTimer])
  | holds => exact withinLimits_of_same h (by simp) (by simp) (by simp) (by simp)
  | returns stations l p hl =>
    refine ⟨h.reservation, hlist, ?_⟩
    rcases hl with hl | hl
    · exact hl.trans hen
    · exact hl
  | _ => exact withinLimits_of_same h rfl rfl rfl rfl

/-- Settles O56: every move keeps the limits, what joins a list finding room in it. -/
theorem everyStepKeepsTheLimits : Obligations.EveryStepKeepsTheLimits :=
  fun _ _ hs hstep => step_keep Move.keeps_limits (fun _ _ h => withinLimits_of_same h rfl rfl rfl rfl) hs hstep

/-! ## The serials -/

theorem outboxSerialsRun_of_same {s t : State} (h : OutboxSerialsRun s) (houtbox : t.outbox = s.outbox) :
    OutboxSerialsRun t := by
  rwa [OutboxSerialsRun, houtbox]

/-- A record filed under the next serial keeps the serials in sequence (R109). -/
theorem fileRecord_serials {s : State} {w : WashRecord} (h : OutboxSerialsRun s)
    (hserial : w.serial = s.outbox.nextSerial) : OutboxSerialsRun (fileRecord s w) := by
  rw [OutboxSerialsRun, fileRecord_outbox]
  exact serialsRun_append _ _ _ h hserial

theorem closeResetRecord_serials {s : State} (r : TunnelRecord) (h : OutboxSerialsRun s) :
    OutboxSerialsRun (closeResetRecord s r) :=
  outboxSerialsRun_of_same
    (fileRecord_serials (w := washOfTunnel s r { r.flags with reset := true }) h rfl) (by simp [closeResetRecord])

theorem closeResetSlot_serials {s : State} (h : OutboxSerialsRun s) : OutboxSerialsRun (closeResetSlot s) := by
  unfold closeResetSlot
  split
  case h_1 => exact h
  case h_2 k _ =>
    exact outboxSerialsRun_of_same
      (fileRecord_serials (s := { s with tunnel := { s.tunnel with slot := none } })
        (w := washOfExit s k { k.flags with reset := true } none) h rfl) (by simp)

theorem foldl_closeResetRecord_serials {s : State} (l : List TunnelRecord) (h : OutboxSerialsRun s) :
    OutboxSerialsRun (l.foldl closeResetRecord s) := by
  induction l generalizing s with
  | nil => exact h
  | cons r l ih => exact ih (closeResetRecord_serials r h)

theorem closeAllReset_serials {s : State} (h : OutboxSerialsRun s) : OutboxSerialsRun (closeAllReset s) :=
  foldl_closeResetRecord_serials _ (outboxSerialsRun_of_same (closeResetSlot_serials h) rfl)

theorem Move.keeps_serials {s t : State} (hmove : Move s t) (h : OutboxSerialsRun s) : OutboxSerialsRun t := by
  cases hmove with
  | powerUp => trivial
  | lineReset =>
    obtain ⟨-, -, -, -, -, -, houtbox, -⟩ := lineReset_blocks s
    exact outboxSerialsRun_of_same (closeAllReset_serials h) houtbox
  | file t' w _ _ hserial =>
    rw [OutboxSerialsRun, appendRecord_outbox]
    exact serialsRun_append _ _ _ h hserial
  | take n => exact serialsRun_drop _ _ n h
  | mode => exact outboxSerialsRun_of_same h (by simp)
  | encoder => exact outboxSerialsRun_of_same h (by simp [atTimer])
  | holds => exact outboxSerialsRun_of_same h (by simp)
  | _ => exact h

/-- Settles O57: what joins the outbox has the next serial, and what leaves it leaves at the oldest end. -/
theorem everyStepKeepsTheSerialsInSequence : Obligations.EveryStepKeepsTheSerialsInSequence :=
  fun _ _ hs hstep => step_keep Move.keeps_serials (fun _ _ h => h) hs hstep

end Sys2Proof.Proofs
end

section
/-! PROOFS. What follows the line (R98, R141, R145, R153, R167): the ALERT output, the line-held copies, the return
belt, the diverters and the tray belts, kept by every move. -/

namespace Sys2Proof.Proofs

open Sys2Proof.Machine Sys2Proof.Laws

/-! ## The ALERT output -/

theorem alertOutputRight_of_same {s t : State} (h : AlertOutputRight s) (houtput : t.sup.alertOutput = s.sup.alertOutput)
    (halerts : t.sup.alerts = s.sup.alerts) (hmask : t.sup.mask = s.sup.mask) : AlertOutputRight t := by
  rw [AlertOutputRight, ← alertActive_iff] at h ⊢
  rw [houtput, halerts, hmask]
  exact h

theorem appendRecord_alertOutput {s : State} (w : WashRecord) (h : AlertOutputRight s) :
    AlertOutputRight (appendRecord s w) := by
  unfold appendRecord
  dsimp only
  split
  · exact raise_alertOutputRight _ _ _ _
  · exact alertOutputRight_of_same h rfl rfl rfl

theorem Move.keeps_alertOutput {s t : State} (hmove : Move s t) (h : AlertOutputRight s) : AlertOutputRight t := by
  cases hmove with
  | powerUp => exact alertActive_iff State.reset
  | lineReset =>
    obtain ⟨hright, -⟩ := lineReset_alerts s
    exact hright
  | file t' w => exact appendRecord_alertOutput w (alertOutputRight_of_same h rfl rfl rfl)
  | alerts => exact refreshAlertOutput_right _
  | mode => exact alertOutputRight_of_same h (by simp) (by simp) (by simp)
  | encoder => exact alertOutputRight_of_same h (by simp [atTimer]) (by simp [atTimer]) (by simp [atTimer])
  | holds => exact alertOutputRight_of_same h (by simp) (by simp) (by simp)
  | _ => exact alertOutputRight_of_same h rfl rfl rfl

/-! ## The blocks -/

theorem blocksFollow_of_same {s t : State} (h : BlocksFollowTheLine s) (hholds : holdSetEmpty t = holdSetEmpty s)
    (hheld : t.sup.lineHeld = s.sup.lineHeld) (hmode : t.sup.mode = s.sup.mode) (htray : t.tray = s.tray)
    (hbelt : t.returns.returnBelt = s.returns.returnBelt) (hdiverters : t.returns.diverters = s.returns.diverters)
    (hfull : isActive t .rf = isActive s .rf) : BlocksFollowTheLine t := by
  obtain ⟨hlineHeld, hreturnBelt, hoff, htrays⟩ := h
  refine ⟨?_, ?_, ?_, ?_⟩
  · rw [hheld, htray, hholds]; exact hlineHeld
  · rw [hbelt, hmode, hfull]; exact hreturnBelt
  · rw [hmode, hdiverters]; exact hoff
  · have hchannel : ∀ b, trayChannel t b = trayChannel s b := by
      intro b
      cases b <;> simp only [trayChannel, htray]
    simp only [hchannel, hmode]
    exact htrays

theorem divertersOff_off (k : Station) : (Vector.replicate 4 Diverter.off)[k] = .off := by simp

theorem stopsTrays_of_isHalt {m : LineMode} (h : m.isHalt = true) : stopsTrays m = true := by
  cases m with
  | halt => rfl
  | loading | warming | parked | run => cases h

/-- A tray belt stands STOPPED_LINE after a change of mode exactly in a mode that stops it (R153). -/
theorem trayAtModeChange_stopped {old : LineMode} (new : LineMode) (headFull : Bool) {c : TrayChannel}
    (h : c.state = .stoppedLine ↔ stopsTrays old = true) :
    (trayAtModeChange old new headFull c).state = .stoppedLine ↔ stopsTrays new = true := by
  unfold trayAtModeChange
  split
  case isTrue hnew => simp [hnew]
  case isFalse hnew =>
    split
    case isTrue => cases headFull <;> simp [hnew]
    case isFalse hold => simp_all

theorem changeMode_follows {s : State} (m : LineMode) (h : BlocksFollowTheLine s) :
    BlocksFollowTheLine (changeMode s m) := by
  obtain ⟨hlineHeld, -, -, htrays⟩ := h
  have hholds : holdSetEmpty (changeMode s m) = holdSetEmpty s := by simp [holdSetEmpty]
  refine ⟨?_, ?_, ?_, ?_⟩
  · rw [hholds]; simpa using hlineHeld
  · simp [changeMode_returns, changeMode_sup, isActive, channel]
  · intro hhalt k
    rw [changeMode_sup] at hhalt
    simp only [changeMode_returns, hhalt, if_true]
    exact divertersOff_off k
  · intro b
    rw [changeMode_sup]
    cases b with
    | north => simpa [trayChannel, changeMode_trays] using trayAtModeChange_stopped m _ (htrays .north)
    | south => simpa [trayChannel, changeMode_trays] using trayAtModeChange_stopped m _ (htrays .south)

/-- The copies say afterwards whether the hold set is non-empty: a report is made exactly where that changed
(R98). -/
theorem holdsChanged_lineHeld {before s : State}
    (hheld : s.sup.lineHeld = !holdSetEmpty before ∧ s.tray.lineHeld = !holdSetEmpty before) :
    (holdsChanged before s).sup.lineHeld = !holdSetEmpty s
      ∧ (holdsChanged before s).tray.lineHeld = !holdSetEmpty s := by
  unfold holdsChanged
  split
  case isTrue hsame => rw [← hsame]; simpa using hheld
  case isFalse => simp [reportLineHeld]

theorem holdsChanged_follows {before s : State} (h : BlocksFollowTheLine before)
    (hheld : s.sup.lineHeld = before.sup.lineHeld) (hmode : s.sup.mode = before.sup.mode)
    (htray : s.tray = before.tray) (hreturns : s.returns = before.returns) (hinputs : s.inputs = before.inputs) :
    BlocksFollowTheLine (holdsChanged before s) := by
  obtain ⟨hlineHeld, hreturnBelt, hoff, htrays⟩ := h
  have hholds : holdSetEmpty (holdsChanged before s) = holdSetEmpty s := by simp [holdSetEmpty]
  have hfull : isActive (holdsChanged before s) .rf = isActive before .rf := by simp [isActive, channel, hinputs]
  refine ⟨?_, ?_, ?_, ?_⟩
  · rw [hholds]
    exact holdsChanged_lineHeld (by rw [hheld, htray]; exact hlineHeld)
  · rw [hfull]; simpa [hmode, hreturns] using hreturnBelt
  · simpa [hmode, hreturns] using hoff
  · intro b
    have hb := htrays b
    cases b <;> simpa [trayChannel, hmode, htray] using hb

theorem lineReset_follows (s : State) : BlocksFollowTheLine (lineReset s) := by
  obtain ⟨-, -, -, -, hrinse, hpacing, -, hreturns, htray, -⟩ := lineReset_blocks s
  obtain ⟨hmode, -, -, hheld, -⟩ := lineReset_sup s
  have hholds : holdSetEmpty (lineReset s) = false := by simp [holdSetEmpty, hrinse, headAtStart]
  refine ⟨?_, ?_, ?_, ?_⟩
  · rw [hheld, htray, hholds]; exact ⟨rfl, rfl⟩
  · rw [hreturns, hmode]; rfl
  · rw [hmode]; exact nofun
  · intro b
    cases b <;> simp [trayChannel, htray, hmode, stopsTrays]

theorem reset_follows : BlocksFollowTheLine State.reset := by
  refine ⟨⟨rfl, rfl⟩, rfl, fun _ k => divertersOff_off k, fun b => ?_⟩
  cases b <;> exact ⟨fun _ => rfl, fun _ => rfl⟩

theorem Move.keeps_blocks {s t : State} (hmove : Move s t) (h : BlocksFollowTheLine s) : BlocksFollowTheLine t := by
  obtain ⟨hlineHeld, hreturnBelt, hoff, htrays⟩ := id h
  cases hmove with
  | powerUp inputs link serial hinputs =>
    refine blocksFollow_of_same reset_follows rfl rfl rfl rfl rfl rfl ?_
    exact (hinputs .rf).trans rfl
  | lineReset => exact lineReset_follows s
  | file =>
    exact blocksFollow_of_same h (by simp [holdSetEmpty]) (by simp) (by simp) (by simp) (by simp) (by simp)
      (by simp [isActive, channel])
  | mode m => exact changeMode_follows m h
  | cause c hhalt =>
    have hstops := stopsTrays_of_isHalt hhalt
    rw [hstops] at hreturnBelt
    refine ⟨hlineHeld, hreturnBelt, fun _ => hoff hhalt, fun b => (htrays b).trans ?_⟩
    exact ⟨fun _ => rfl, fun _ => hstops⟩
  | encoder => exact changeMode_follows _ (blocksFollow_of_same h rfl rfl rfl rfl rfl rfl rfl)
  | holds => exact holdsChanged_follows h rfl rfl rfl rfl rfl
  | diverters v hkeeps => exact ⟨hlineHeld, hreturnBelt, fun hhalt => hkeeps hhalt (hoff hhalt), htrays⟩
  | trays y hheld hnorth hsouth =>
    refine ⟨⟨hlineHeld.1, hheld.trans hlineHeld.2⟩, hreturnBelt, hoff, fun b => ?_⟩
    cases b with
    | north => exact hnorth.trans (htrays .north)
    | south => exact hsouth.trans (htrays .south)
  | inputs v hfull => exact blocksFollow_of_same h rfl rfl rfl rfl rfl rfl hfull
  | returnEndFull v => exact ⟨hlineHeld, rfl, hoff, htrays⟩
  | _ => exact blocksFollow_of_same h rfl rfl rfl rfl rfl rfl rfl

/-- What follows the line, the ALERT output with the other blocks. -/
def FollowsTheLine (s : State) : Prop := AlertOutputRight s ∧ BlocksFollowTheLine s

/-- Settles O58: every move keeps the ALERT output and the blocks. -/
theorem everyStepKeepsWhatFollowsTheLine : Obligations.EveryStepKeepsWhatFollowsTheLine :=
  fun _ _ halerts hblocks hstep =>
    step_keep (P := FollowsTheLine) (fun hmove h => ⟨hmove.keeps_alertOutput h.1, hmove.keeps_blocks h.2⟩)
      (fun _ _ h => ⟨h.1, blocksFollow_of_same h.2 rfl rfl rfl rfl rfl rfl rfl⟩) ⟨halerts, hblocks⟩ hstep

/-! ## The card right after reset -/

theorem reset_settled : Settled State.reset :=
  ⟨nofun, .inl rfl, rfl, rfl⟩

/-- Settles O60. -/
theorem resetMeetsTheInvariants : Obligations.ResetMeetsTheInvariants :=
  ⟨outputsFollow_stopped rfl rfl rfl rfl rfl, ⟨Nat.zero_le 96, Nat.zero_le 16, Nat.zero_le 24⟩, trivial,
    alertActive_iff State.reset, reset_follows, reset_settled⟩

end Sys2Proof.Proofs
end

section
/-! PROOFS. What an event settles (R35, R161, R162): settling leaves nothing to settle, and an event that settles
nothing changes nothing that the tests look at. -/

namespace Sys2Proof.Proofs

open Sys2Proof.Machine Sys2Proof.Laws

/-! ## The line supervisor under a raise -/

@[simp] theorem raiseMarked_sup (s : State) (k : AlertKind) (rack : Option Rack) (u : Bool) :
    (raiseMarked s k rack u).sup.mode = s.sup.mode ∧ (raiseMarked s k rack u).sup.draining = s.sup.draining
      ∧ (raiseMarked s k rack u).sup.runOn = s.sup.runOn ∧ (raiseMarked s k rack u).sup.lineHeld = s.sup.lineHeld
      ∧ (raiseMarked s k rack u).sup.mask = s.sup.mask ∧ (raiseMarked s k rack u).sup.storeOp = s.sup.storeOp
      ∧ (raiseMarked s k rack u).sup.lastSave = s.sup.lastSave := ⟨rfl, rfl, rfl, rfl, rfl, rfl, rfl⟩

@[simp] theorem raise_sup (s : State) (k : AlertKind) (rack : Option Rack) :
    (raise s k rack).sup.mode = s.sup.mode ∧ (raise s k rack).sup.draining = s.sup.draining
      ∧ (raise s k rack).sup.runOn = s.sup.runOn ∧ (raise s k rack).sup.lineHeld = s.sup.lineHeld
      ∧ (raise s k rack).sup.mask = s.sup.mask ∧ (raise s k rack).sup.storeOp = s.sup.storeOp
      ∧ (raise s k rack).sup.lastSave = s.sup.lastSave := raiseMarked_sup s k rack false

/-! ## What the tests look at -/

/-- A rack that waits for a reason that can pass has been decided on the state as it stands (R33 to R35). -/
def Decided (s : State) : Prop :=
  ∀ r o, s.stage = .waiting r o → r.permanent = false →
    waitReason s o = some r
      ∧ ∀ n, o = .read n → modeAdmits s = true → par s .autoEnrol ≠ 0 → row s n ≠ none

/-- Two states that the admission tests cannot tell apart (R33). -/
structure DecideAlike (s t : State) : Prop where
  stage    : t.stage = s.stage
  mode     : t.sup.mode = s.sup.mode
  draining : t.sup.draining = s.sup.draining
  odometer : t.belt.odometer = s.belt.odometer
  settings : t.settings = s.settings
  entries  : t.tunnel.list.map TunnelRecord.entry = s.tunnel.list.map TunnelRecord.entry
  slot     : t.tunnel.slot.isSome = s.tunnel.slot.isSome
  outbox   : t.outbox.queue.length = s.outbox.queue.length
  rows     : ∀ n, (row t n).map Row.retired = (row s n).map Row.retired

/-- Two states that the tests of `settle` cannot tell apart, but that the second may be held where the first is
not. -/
structure SettleAlike (s t : State) : Prop extends DecideAlike s t where
  runOn : t.sup.runOn = s.sup.runOn
  held  : s.sup.lineHeld = true → t.sup.lineHeld = true

theorem DecideAlike.tunnelLength {s t : State} (h : DecideAlike s t) :
    t.tunnel.list.length = s.tunnel.list.length := by
  simpa using congrArg List.length h.entries

theorem DecideAlike.reservation {s t : State} (h : DecideAlike s t) : reservation t = reservation s := by
  simp only [Sys2Proof.Machine.reservation, countOf, h.tunnelLength, h.stage, h.slot, h.outbox]

theorem DecideAlike.modeAdmits {s t : State} (h : DecideAlike s t) : modeAdmits t = modeAdmits s := by
  simp only [Sys2Proof.Machine.modeAdmits, h.mode, h.draining]

theorem DecideAlike.par {s t : State} (h : DecideAlike s t) (p : Param) : par t p = par s p := by
  simp only [Sys2Proof.Machine.par, h.settings]

theorem DecideAlike.lineEmpty {s t : State} (h : DecideAlike s t) : lineEmpty t = lineEmpty s := by
  have hlist : t.tunnel.list.isEmpty = s.tunnel.list.isEmpty := by
    rw [Bool.eq_iff_iff, List.isEmpty_iff_length_eq_zero, List.isEmpty_iff_length_eq_zero, h.tunnelLength]
  have hslot : t.tunnel.slot.isNone = s.tunnel.slot.isNone := by
    rw [← Option.not_isSome, ← Option.not_isSome, h.slot]
  simp only [Sys2Proof.Machine.lineEmpty, hlist, h.stage, hslot]

/-- The tests of room rest on the entries of the tunnel list, its tail's first, and on the reservation (R33). -/
theorem roomReason_alike {s t : State}
    (hentries : t.tunnel.list.map TunnelRecord.entry = s.tunnel.list.map TunnelRecord.entry)
    (hreservation : reservation t = reservation s) (hodometer : t.belt.odometer = s.belt.odometer)
    (hsettings : t.settings = s.settings) : roomReason t = roomReason s := by
  have hlength : t.tunnel.list.length = s.tunnel.list.length := by simpa using congrArg List.length hentries
  have htail : (t.tunnel.list.getLast?).map TunnelRecord.entry = (s.tunnel.list.getLast?).map TunnelRecord.entry := by
    rw [← List.getLast?_map, ← List.getLast?_map, hentries]
  have htravel : ∀ e, travel t e = travel s e := fun e => by rw [travel, hodometer, travel]
  have hspacing : par t .spacing = par s .spacing := by rw [par, hsettings, par]
  simp only [roomReason, hlength, hreservation, htravel, hspacing]
  cases ht : t.tunnel.list.getLast? with
  | none => cases hs : s.tunnel.list.getLast? <;> simp_all
  | some a =>
    cases hs : s.tunnel.list.getLast? with
    | none => simp_all
    | some b =>
      have hab : a.entry = b.entry := by simpa [ht, hs] using htail
      simp only [hab]

theorem DecideAlike.waitReason {s t : State} (h : DecideAlike s t) (o : ReadOutcome) :
    waitReason t o = waitReason s o := by
  have hroom := roomReason_alike h.entries h.reservation h.odometer h.settings
  simp only [Sys2Proof.Machine.waitReason, h.modeAdmits, h.par, hroom]
  cases o with
  | unread => rfl
  | read n =>
    have hrow := h.rows n
    cases ht : row t n <;> cases hs : row s n <;> simp_all

theorem Decided.of_alike {s t : State} (hs : Decided s) (h : DecideAlike s t) : Decided t := by
  intro r o hstage hpasses
  obtain ⟨hreason, henrolled⟩ := hs r o (h.stage.symm.trans hstage) hpasses
  refine ⟨(h.waitReason o).trans hreason, fun n hn hadmits hauto hvacant => ?_⟩
  refine henrolled n hn (h.modeAdmits.symm.trans hadmits) (h.par .autoEnrol ▸ hauto) ?_
  have hrow := h.rows n
  rw [hvacant] at hrow
  simpa using hrow.symm

theorem settled_alike {s t : State} (hs : Settled s) (h : SettleAlike s t) : Settled t := by
  obtain ⟨hdecided, hrunOn, hdrain, hparked⟩ := hs
  have hempty := h.lineEmpty
  refine ⟨Decided.of_alike hdecided h.toDecideAlike, ?_, ?_, ?_⟩
  · rw [hempty, h.runOn]; exact hrunOn
  · simpa only [drainEnds, h.mode, h.draining, hempty] using hdrain
  · simp only [runOnEnds, h.mode, hempty, h.draining, h.par, h.runOn] at hparked ⊢
    cases hheld : s.sup.lineHeld with
    | true => simp [h.held hheld]
    | false =>
      rw [hheld] at hparked
      cases t.sup.lineHeld
      · exact hparked
      · simp

/-! ## Settling leaves nothing to settle -/

@[simp] theorem row_removeEnRoute (s : State) (n m : Rack) : row (removeEnRoute s n) m = row s m := rfl

@[simp] theorem row_setStage (s : State) (g : Stage) (m : Rack) : row (setStage s g) m = row s m := rfl

/-- The decision enrols the rack read where it reaches test 3 with a vacant row and AUTOENROL 1, and no other
(R34). -/
theorem row_autoEnrol (s : State) (n m : Rack) :
    row (autoEnrol s (.read n)) m =
      if n = m ∧ modeAdmits s = true ∧ row s n = none ∧ par s .autoEnrol ≠ 0 then
        some (newRow s.settings.autoClass .queued)
      else row s m := by
  have henrol : autoEnrol s (.read n) =
      if modeAdmits s && (row s n).isNone && par s .autoEnrol != 0 then
        removeEnRoute (setRow s n (some (newRow s.settings.autoClass .queued))) n
      else s := rfl
  rw [henrol]
  by_cases hnm : n = m <;> cases modeAdmits s <;> cases row s n <;> by_cases hauto : par s .autoEnrol = 0 <;>
    simp [hnm, hauto]

/-- After an enrolment by AUTOENROL the tests give what they gave before it (R33, R34). -/
theorem waitReason_autoEnrol (s : State) (o : ReadOutcome) : waitReason (autoEnrol s o) o = waitReason s o := by
  have hroom : roomReason (autoEnrol s o) = roomReason s :=
    roomReason_alike (by simp) (by simp [reservation]) (by simp) (by simp)
  have hadmits : modeAdmits (autoEnrol s o) = modeAdmits s := by simp [modeAdmits]
  have hpar : par (autoEnrol s o) .autoEnrol = par s .autoEnrol := by simp [par]
  cases o with
  | unread => rfl
  | read n =>
    simp only [waitReason, hadmits, hroom, hpar, row_autoEnrol]
    cases modeAdmits s <;> cases row s n <;> by_cases hauto : par s .autoEnrol = 0 <;> simp [hauto, newRow]

/-- With AUTOENROL 1 the decision leaves no vacant row where the mode admits (R34). -/
theorem autoEnrol_enrolled {s : State} {n : Rack} (hadmits : modeAdmits s = true) (hauto : par s .autoEnrol ≠ 0) :
    row (autoEnrol s (.read n)) n ≠ none := by
  rw [row_autoEnrol]
  cases hrow : row s n <;> simp [hadmits, hauto]

/-- A rack left waiting by the decision has been decided, the stage having carried no admission (R33 to R35). -/
theorem decideAdmission_decided {s : State} (o : ReadOutcome) (hstage : s.stage.pending? = none) :
    Decided (decideAdmission s o) := by
  intro r' o' hstage' hpasses
  rcases decideAdmission_cases s o with ⟨-, hadmit⟩ | ⟨r, hreason, hwait⟩
  · obtain ⟨hadmitting, -⟩ := admit_stage (autoEnrol s o) o
    rw [hadmit, hadmitting] at hstage'
    cases hstage'
  · have hwaits : (decideAdmission s o).stage = .waiting r o := by
      rw [hwait]
      split <;> simp [setStage]
    obtain ⟨rfl, rfl⟩ := Stage.waiting.inj (hwaits.symm.trans hstage')
    rw [decideAdmission_waits s o r hreason hpasses]
    have halike : roomReason (setStage (autoEnrol s o) (.waiting r o)) = roomReason (autoEnrol s o) :=
      by
      refine roomReason_alike rfl ?_ rfl rfl
      simp only [reservation, setStage, autoEnrol_frame, hstage]
      rfl
    have hreason' : waitReason (setStage (autoEnrol s o) (.waiting r o)) o = waitReason (autoEnrol s o) o := by
      simp only [waitReason, halike, row_setStage]
      rfl
    refine ⟨by rw [hreason', waitReason_autoEnrol, hreason], ?_⟩
    rintro n rfl hadmits hauto
    exact autoEnrol_enrolled (by simpa [modeAdmits] using hadmits) (by simpa [par] using hauto)

theorem reevaluate_decided (s : State) : Decided (reevaluate s) := by
  intro r' o' hstage' hpasses
  cases hstage : s.stage with
  | waiting r o =>
    cases hr : r.permanent with
    | true =>
      simp only [reevaluate, hstage, hr, if_true] at hstage'
      cases hstage'
      rw [hr] at hpasses
      cases hpasses
    | false =>
      have hdecides : reevaluate s = decideAdmission s o := by simp [reevaluate, hstage, hr]
      rw [hdecides] at hstage' ⊢
      exact decideAdmission_decided o (by rw [hstage]; rfl) r' o' hstage' hpasses
  | empty | reading | admitting =>
    simp only [reevaluate, hstage] at hstage'
    cases hstage'

theorem runOnWhileOccupied_decided {s : State} (h : Decided s) : Decided (runOnWhileOccupied s) := by
  unfold runOnWhileOccupied
  split
  · exact h
  · exact h.of_alike ⟨rfl, rfl, rfl, rfl, rfl, rfl, rfl, rfl, fun _ => rfl⟩

/-- A parked empty line that has decided the waiting rack again has nothing left to settle: where that admitted the
rack and woke the line, the line is not empty (R36, R160). -/
theorem parked_settled {s : State} (hmode : s.sup.mode = .parked) (hempty : lineEmpty s = true) :
    Settled (reevaluate s) := by
  have hcases : (lineEmpty (reevaluate s) = true ∧ (reevaluate s).sup.mode = .parked)
      ∨ (lineEmpty (reevaluate s) = false ∧ (reevaluate s).sup.runOn = 0) := by
    unfold reevaluate
    split
    case h_1 r o hstage =>
      split
      case isTrue => exact .inl ⟨hempty, hmode⟩
      case isFalse =>
        rcases decideAdmission_cases s o with ⟨-, hadmit⟩ | ⟨r', -, hwait⟩
        · obtain ⟨hadmitting, hrunOn, -⟩ := admit_stage (autoEnrol s o) o
          rw [hadmit]
          exact .inr ⟨by simp [lineEmpty, hadmitting, Stage.pending?], hrunOn⟩
        · have hnone : s.stage.pending? = none := by rw [hstage]; rfl
          rw [lineEmpty, hnone] at hempty
          refine .inl ?_
          rw [hwait]
          split <;> exact ⟨by simpa [lineEmpty, setStage, Stage.pending?] using hempty, by simpa using hmode⟩
    all_goals exact .inl ⟨hempty, hmode⟩
  refine ⟨reevaluate_decided s, ?_, ?_, ?_⟩
  all_goals rcases hcases with ⟨hempty', hmode'⟩ | ⟨hempty', hrunOn'⟩
  · exact .inl hempty'
  · exact .inr hrunOn'
  · simp [drainEnds, hmode']
  · simp [drainEnds, hempty']
  · simp [runOnEnds, hmode']
  · simp [runOnEnds, hempty']

/-- After an event is settled nothing is left to settle, whatever the event found (R35, R161, R162). -/
theorem settle_isSettled (s : State) : Settled (settle s) := by
  have hparks : ∀ t u : State, lineEmpty t = true → lineEmpty u = lineEmpty t →
      Settled (reevaluate (changeMode u .parked)) := by
    intro t u ht hu
    refine parked_settled (by simp [changeMode_sup]) ?_
    rw [← ht, ← hu]
    simp [lineEmpty]
  have hdecided := runOnWhileOccupied_decided (reevaluate_decided s)
  have hrunOn : lineEmpty (runOnWhileOccupied (reevaluate s)) = true
      ∨ (runOnWhileOccupied (reevaluate s)).sup.runOn = 0 := by
    unfold runOnWhileOccupied
    split
    case isTrue hempty => exact .inl hempty
    case isFalse => exact .inr rfl
  unfold settle
  generalize runOnWhileOccupied (reevaluate s) = t at *
  cases hdrain : drainEnds t with
  | true =>
    have hempty : lineEmpty t = true := by simp_all [drainEnds]
    have hsettled := hparks t { t with sup := { t.sup with draining := false } } hempty rfl
    rw [drainTest, if_pos hdrain, runOnTest, if_neg (by rw [hsettled.parked]; decide)]
    exact hsettled
  | false =>
    rw [drainTest, if_neg (by rw [hdrain]; decide)]
    cases hrun : runOnEnds t with
    | true =>
      have hempty : lineEmpty t = true := by simp_all [runOnEnds]
      rw [runOnTest, if_pos hrun]
      exact hparks t { t with sup := { t.sup with runOn := 0 } } hempty rfl
    | false =>
      rw [runOnTest, if_neg (by rw [hrun]; decide)]
      exact ⟨hdecided, hrunOn, hdrain, hrun⟩

end Sys2Proof.Proofs
end

section
/-! PROOFS. Every step leaves nothing to settle: a command settles its event, or changes nothing that the tests look
at. -/

namespace Sys2Proof.Proofs

open Sys2Proof.Machine Sys2Proof.Laws

/-! ## Operations that the tests of `settle` do not see -/

theorem settleAlike_of_same {s t : State} (hstage : t.stage = s.stage) (htunnel : t.tunnel = s.tunnel)
    (houtbox : t.outbox = s.outbox) (hregistry : t.registry = s.registry) (hmode : t.sup.mode = s.sup.mode)
    (hdraining : t.sup.draining = s.sup.draining) (hrunOn : t.sup.runOn = s.sup.runOn)
    (hheld : t.sup.lineHeld = s.sup.lineHeld) (hodometer : t.belt.odometer = s.belt.odometer)
    (hsettings : t.settings = s.settings) : SettleAlike s t := by
  refine ⟨⟨hstage, hmode, hdraining, hodometer, hsettings, ?_, ?_, ?_, ?_⟩, hrunOn, ?_⟩
  · rw [htunnel]
  · rw [htunnel]
  · rw [houtbox]
  · simp [row, hregistry]
  · simp [hheld]

theorem SettleAlike.refl (s : State) : SettleAlike s s := settleAlike_of_same rfl rfl rfl rfl rfl rfl rfl rfl rfl rfl

theorem SettleAlike.trans {s t u : State} (hst : SettleAlike s t) (htu : SettleAlike t u) : SettleAlike s u where
  stage := htu.stage.trans hst.stage
  mode := htu.mode.trans hst.mode
  draining := htu.draining.trans hst.draining
  odometer := htu.odometer.trans hst.odometer
  settings := htu.settings.trans hst.settings
  entries := htu.entries.trans hst.entries
  slot := htu.slot.trans hst.slot
  outbox := htu.outbox.trans hst.outbox
  rows n := (htu.rows n).trans (hst.rows n)
  runOn := htu.runOn.trans hst.runOn
  held h := htu.held (hst.held h)

/-- A place set retires no row. -/
theorem setPlace_alike (s : State) (n : Rack) (p : Place) : SettleAlike s (setPlace s n p) := by
  refine ⟨⟨by simp, by simp, by simp, by simp, by simp, by simp, by simp, by simp, fun m => ?_⟩, by simp, by simp⟩
  rw [row_setPlace]
  split
  · cases row s m <;> rfl
  · rfl

theorem setPlaceOf_alike (s : State) (n : Option Rack) (p : Place) : SettleAlike s (setPlaceOf s n p) := by
  cases n with
  | none => exact .refl s
  | some n => exact setPlace_alike s n p

theorem raise_alike (s : State) (k : AlertKind) (rack : Option Rack) : SettleAlike s (raise s k rack) :=
  settleAlike_of_same rfl rfl rfl rfl rfl rfl rfl rfl rfl rfl

/-- A change of flags leaves the entries where they are. -/
theorem flagRecords_alike (s : State) (which : TunnelRecord → Bool) (flag : Flags → Flags) :
    SettleAlike s (flagRecords s which flag) := by
  refine ⟨⟨rfl, rfl, rfl, rfl, rfl, ?_, rfl, rfl, fun _ => rfl⟩, rfl, id⟩
  simp only [flagRecords, List.map_map]
  refine List.map_congr_left fun r _ => ?_
  simp only [Function.comp_apply]
  split <;> rfl

theorem setReader_alike (s : State) (r : Reader) (c : ReaderChannel) : SettleAlike s (setReader s r c) := by
  cases r <;> exact settleAlike_of_same rfl rfl rfl rfl rfl rfl rfl rfl rfl rfl

theorem setChannel_alike (s : State) (i : Input) (c : InputChannel) : SettleAlike s (setChannel s i c) :=
  settleAlike_of_same rfl rfl rfl rfl rfl rfl rfl rfl rfl rfl

theorem atReturns_alike (s : State) (r : Return) : SettleAlike s { s with returns := r } :=
  settleAlike_of_same rfl rfl rfl rfl rfl rfl rfl rfl rfl rfl

theorem atPacing_alike (s : State) (p : Pacing) : SettleAlike s { s with pacing := p } :=
  settleAlike_of_same rfl rfl rfl rfl rfl rfl rfl rfl rfl rfl

theorem setCongestion_alike (s : State) (n : Nat) : SettleAlike s (setCongestion s n) :=
  settleAlike_of_same rfl rfl rfl rfl rfl rfl rfl rfl rfl rfl

theorem loseRack_alike (s : State) (e : EnRoute) : SettleAlike s (loseRack s e) :=
  (raise_alike s _ _).trans (setPlaceOf_alike _ _ _)

theorem foldl_loseRack_alike (l : List EnRoute) (s : State) : SettleAlike s (l.foldl loseRack s) := by
  induction l generalizing s with
  | nil => exact .refl s
  | cons e l ih => exact (loseRack_alike s e).trans (ih _)

theorem diverterEyeBlocked_alike (s : State) (k : Station) : SettleAlike s (diverterEyeBlocked s k) := by
  unfold diverterEyeBlocked
  split
  · exact raise_alike s _ _
  · split
    · exact .refl s
    · split
      · refine SettleAlike.trans ?_ (setPlaceOf_alike _ _ _)
        unfold pulseDiverter
        split <;> exact atReturns_alike s _
      · exact atReturns_alike s _

theorem returnEndBlocked_alike (s : State) : SettleAlike s (returnEndBlocked s) := by
  unfold returnEndBlocked
  split
  · exact raise_alike s _ _
  · split
    · exact .refl s
    · exact (atReturns_alike s _).trans (setPlaceOf_alike _ _ _)

theorem loseEntry_alike (s : State) (i : Nat) : SettleAlike s (loseEntry s i) := by
  unfold loseEntry
  split
  · exact .refl s
  · split
    · exact (atReturns_alike s _).trans (loseRack_alike _ _)
    · exact .refl s

theorem trayArrives_alike (s : State) (b : TrayBelt) : SettleAlike s (trayArrives s b) := by
  unfold trayArrives
  dsimp only
  split
  · exact .refl s
  · split
    · cases b <;> exact settleAlike_of_same rfl rfl rfl rfl rfl rfl rfl rfl rfl rfl
    · split
      · cases b <;> exact settleAlike_of_same rfl rfl rfl rfl rfl rfl rfl rfl rfl rfl
      · cases b <;> exact settleAlike_of_same rfl rfl rfl rfl rfl rfl rfl rfl rfl rfl

theorem headFullChange_alike (s : State) (b : TrayBelt) (active : Bool) :
    SettleAlike s (headFullChange s b active) :=
  settleAlike_of_same (by simp) (by simp) (by simp) (by simp) (by simp) (by simp) (by simp) (by simp) (by simp)
    (by simp)

theorem holdTimerEnds_alike (s : State) (b : TrayBelt) : SettleAlike s (holdTimerEnds s b) :=
  settleAlike_of_same (by simp) (by simp) (by simp) (by simp) (by simp) (by simp) (by simp) (by simp) (by simp)
    (by simp)

theorem setLamp_alike (s : State) (x : Lamp) : SettleAlike s { s with tunnel := { s.tunnel with lamp := x } } :=
  ⟨⟨rfl, rfl, rfl, rfl, rfl, rfl, rfl, rfl, fun _ => rfl⟩, rfl, id⟩

theorem deadlinesTenth_alike (s : State) : SettleAlike s (deadlinesTenth s) := by
  unfold deadlinesTenth
  split
  · exact (atReturns_alike s _).trans (foldl_loseRack_alike _ _)
  · exact .refl s

theorem stallAlert_alike (s : State) : SettleAlike s (stallAlert s) :=
  (raise_alike s _ _).trans (flagRecords_alike _ _ _)

theorem countTenth_alike (s : State) : SettleAlike s (countTenth s) :=
  ⟨⟨rfl, rfl, rfl, rfl, rfl, rfl, rfl, rfl, fun _ => rfl⟩, rfl, id⟩

/-- HB can only hold the line (R98). -/
theorem setPause_alike (s : State) : SettleAlike s (setPause s true) := by
  refine ⟨⟨by simp [setPause], by simp [setPause], by simp [setPause], by simp [setPause], by simp [setPause],
    by simp [setPause], by simp [setPause], by simp [setPause], by simp [setPause, row]⟩, by simp [setPause], ?_⟩
  intro hheld
  unfold setPause holdsChanged
  split
  · simpa using hheld
  · simp [reportLineHeld, holdSetEmpty]

/-! ## Commands -/

/-- A command answers a state that leaves nothing to settle. -/
def SettlesTo (o : Host.Outcome State Fault Refusal) : Prop := ∃ t, o = .next t ∧ Settled t

theorem settlesTo_settle (s : State) : SettlesTo (.next (settle s)) := ⟨_, rfl, settle_isSettled s⟩

theorem settlesTo_alike {s t : State} (hs : Settled s) (h : SettleAlike s t) : SettlesTo (.next t) :=
  ⟨t, rfl, settled_alike hs h⟩

theorem settlesTo_same {s : State} (hs : Settled s) : SettlesTo (.next s) := ⟨s, rfl, hs⟩

theorem setLink_alike (s : State) (l : Link) : SettleAlike s { s with link := l } :=
  settleAlike_of_same rfl rfl rfl rfl rfl rfl rfl rfl rfl rfl

theorem settlesTo_request {s : State} {command : Text} {effect : State → State × Reply} (hs : Settled s)
    (h : ∀ t, Settled t → Settled (effect t).1) : SettlesTo (.next (takeRequest s command effect)) := by
  refine ⟨_, rfl, ?_⟩
  unfold takeRequest
  split
  · exact settled_alike (h _ (settled_alike hs (setLink_alike s _))) (setLink_alike _ _)
  · exact hs

theorem withoutFields_settled (fields : List Text) {effect : State → State × Reply}
    (h : ∀ t, Settled t → Settled (effect t).1) (t : State) (ht : Settled t) :
    Settled (withoutFields fields effect t).1 := by
  cases fields with
  | nil => exact h t ht
  | cons _ _ => exact ht

theorem settlesTo_report {s : State} {command : Text} {effect : State → State × Reply} (hs : Settled s)
    (h : ∀ t, (effect t).1 = t) : SettlesTo (.next (takeRequest s command effect)) :=
  settlesTo_request hs fun t ht => by rw [h t]; exact ht

theorem travelEvents_settled {s : State} (n : Nat) (hs : Settled s) : Settled (travelEvents s n) := by
  induction n generalizing s with
  | zero => exact hs
  | succ n ih => exact ih (settle_isSettled _)

theorem reverseMillimetres_settled {s : State} (n : Nat) (hs : Settled s) : Settled (reverseMillimetres s n) := by
  induction n generalizing s with
  | zero => exact hs
  | succ n ih =>
    refine ih ?_
    unfold reverseMillimetre
    split
    · exact hs
    · dsimp only
      split
      · exact settle_isSettled _
      · exact settled_alike hs (settleAlike_of_same rfl rfl rfl rfl rfl rfl rfl rfl rfl rfl)

theorem deliver_settled {s : State} (i : Input) (active : Bool) (hs : Settled s) : Settled (deliver s i active) := by
  have hif : ∀ t : State, Settled t → Settled (if active then t else s) := by
    intro t ht
    split
    · exact ht
    · exact hs
  cases i with
  | ap | ex | rg | d1 | d2 | d3 | tf => exact settle_isSettled _
  | en | es => exact hif _ (settle_isSettled _)
  | v1 | v2 | v3 | v4 => exact hif _ (settled_alike hs (diverterEyeBlocked_alike s _))
  | re => exact hif _ (settled_alike hs (returnEndBlocked_alike s))
  | hn | hs => exact hif _ (settled_alike hs (trayArrives_alike s _))
  | sk => exact hs
  | rf => exact settled_alike hs (atReturns_alike s _)
  | fn | fs => exact settled_alike hs (headFullChange_alike s _ active)

theorem failAttempt_settled {s : State} (r : Reader) (a : Nat) (hs : Settled s) : Settled (failAttempt s r a) := by
  unfold failAttempt
  dsimp only
  split
  · exact settled_alike hs (setReader_alike s r _)
  · exact settle_isSettled _

theorem endPoll_settled {s : State} (v : Option Nat) (hs : Settled s) : Settled (endPoll s v) := by
  unfold endPoll
  split
  · exact hs
  · exact settle_isSettled _
  · exact settle_isSettled _

theorem completeSave_alike (s : State) (image : StoreImage) (readBack : StoreContents) :
    SettleAlike s (completeSave s image readBack) := by
  unfold completeSave
  dsimp only
  split
  · exact settleAlike_of_same rfl rfl rfl rfl rfl rfl rfl rfl rfl rfl
  · exact settleAlike_of_same rfl rfl rfl rfl rfl rfl rfl rfl rfl rfl

theorem lineReset_settled (s : State) : Settled (lineReset s) := by
  obtain ⟨-, -, hstage, -⟩ := lineReset_blocks s
  obtain ⟨hmode, hdraining, hrunOn, -⟩ := lineReset_sup s
  refine ⟨fun r o hwaits => ?_, .inr hrunOn, ?_, ?_⟩
  · rw [hstage] at hwaits
    split at hwaits <;> cases hwaits
  · rw [drainEnds, hmode]; rfl
  · rw [runOnEnds, hmode]; rfl

theorem congestionTimerStep_settled {s : State} (hs : Settled s) : SettlesTo (exec .congestionTimerStep s) := by
  have hcount : SettleAlike s (deadlinesTenth (congestionStep (countTenth s))) :=
    (countTenth_alike s).trans ((setCongestion_alike _ _).trans (deadlinesTenth_alike _))
  change SettlesTo (execCongestionTimerStep s)
  unfold execCongestionTimerStep
  dsimp only
  by_cases hlast : encoderLastTenth s = true
  · rw [if_pos hlast]
    exact settlesTo_settle _
  · rw [if_neg hlast]
    split
    · exact settlesTo_alike hs (hcount.trans (stallAlert_alike _))
    · exact settlesTo_alike hs hcount

/-! ## The requests -/

theorem goEffect_settled (t : State) (ht : Settled t) : Settled (goEffect t).1 := by
  unfold goEffect
  split
  · exact settle_isSettled _
  · exact settle_isSettled _
  all_goals exact ht

theorem spEffect_settled (t : State) (ht : Settled t) : Settled (spEffect t).1 := by
  unfold spEffect
  split
  · split <;> exact settle_isSettled _
  all_goals exact ht

theorem crEffect_settled (t : State) (ht : Settled t) : Settled (crEffect t).1 := by
  unfold crEffect
  split
  · exact ht
  · split
    · exact ht
    · split
      · exact settle_isSettled _
      · exact ht

theorem ldEffect_settled (t : State) (ht : Settled t) : Settled (ldEffect t).1 := by
  unfold ldEffect
  split
  · exact ht
  · split
    · exact ht
    · split
      · exact ht
      · exact settle_isSettled _

theorem svEffect_settled (t : State) (ht : Settled t) : Settled (svEffect t).1 := by
  unfold svEffect
  split
  · exact ht
  · exact settled_alike ht (settleAlike_of_same rfl rfl rfl rfl rfl rfl rfl rfl rfl rfl)

theorem exec_ac_settled (fields : List Text) {s : State} (hs : Settled s) : SettlesTo (exec (.ac fields) s) := by
  refine settlesTo_request hs fun t ht => ?_
  have hclear : ∀ ks, Settled (clearAlerts t ks) := fun ks =>
    settled_alike ht (settleAlike_of_same rfl rfl rfl rfl rfl rfl rfl rfl rfl rfl)
  split
  · exact hclear _
  · split
    · exact hclear _
    · exact ht

theorem exec_am_settled (fields : List Text) {s : State} (hs : Settled s) : SettlesTo (exec (.am fields) s) := by
  refine settlesTo_request hs fun t ht => ?_
  split
  · exact ht
  · split
    · exact ht
    · exact settled_alike ht (settleAlike_of_same rfl rfl rfl rfl rfl rfl rfl rfl rfl rfl)

theorem exec_tk_settled (fields : List Text) {s : State} (hs : Settled s) : SettlesTo (exec (.tk fields) s) := by
  refine settlesTo_request hs fun t ht => ?_
  split
  · exact ht
  · exact settle_isSettled _

theorem exec_en_settled (fields : List Text) {s : State} (hs : Settled s) : SettlesTo (exec (.en fields) s) := by
  refine settlesTo_request hs fun t ht => ?_
  split
  · split
    · split
      · exact ht
      · split
        · exact ht
        · exact settle_isSettled _
    · exact ht
  · exact ht

theorem exec_dr_settled (fields : List Text) {s : State} (hs : Settled s) : SettlesTo (exec (.dr fields) s) := by
  refine settlesTo_request hs fun t ht => ?_
  split
  · exact ht
  · split
    · exact ht
    · split
      · exact ht
      · split
        · exact ht
        · exact settle_isSettled _

theorem exec_rt_settled (fields : List Text) {s : State} (hs : Settled s) : SettlesTo (exec (.rt fields) s) := by
  refine settlesTo_request hs fun t ht => ?_
  split
  · exact ht
  · split
    · exact ht
    · split
      · exact ht
      · split
        · exact ht
        · exact settle_isSettled _

theorem exec_mk_settled (fields : List Text) {s : State} (hs : Settled s) : SettlesTo (exec (.mk fields) s) := by
  refine settlesTo_request hs fun t ht => ?_
  split
  · split
    · split
      · exact ht
      · split
        · exact settled_alike ht (setPlace_alike t _ _)
        · exact ht
    · exact ht
  · exact ht

theorem exec_ss_settled (fields : List Text) {s : State} (hs : Settled s) : SettlesTo (exec (.ss fields) s) := by
  refine settlesTo_request hs fun t ht => ?_
  split
  · exact ht
  · split
    · exact ht
    · split
      · exact ht
      · exact settled_alike ht (atReturns_alike t _)

theorem exec_ps_settled (fields : List Text) {s : State} (hs : Settled s) : SettlesTo (exec (.ps fields) s) := by
  refine settlesTo_request hs fun t ht => ?_
  split
  · exact ht
  · split
    · exact ht
    · exact settle_isSettled _

/-! ## Every command -/

theorem exec_settles (c : Instr) {s : State} (hs : Settled s) : SettlesTo (exec c s) := by
  cases c with
  | powerUp => exact ⟨_, rfl, nofun, .inl rfl, rfl, rfl⟩
  | forwardPulse =>
    exact ⟨_, rfl, travelEvents_settled _
      (settled_alike hs (settleAlike_of_same rfl rfl rfl rfl rfl rfl rfl rfl rfl rfl))⟩
  | reversePulse =>
    exact ⟨_, rfl, reverseMillimetres_settled _
      (settled_alike hs (settleAlike_of_same rfl rfl rfl rfl rfl rfl rfl rfl rfl rfl))⟩
  | encStall =>
    change SettlesTo (execEncStall s)
    unfold execEncStall
    split
    · exact settlesTo_settle _
    · exact settlesTo_same hs
  | inputLevelChange i high => exact settlesTo_alike hs (setChannel_alike s i _)
  | filterTimeReached i =>
    change SettlesTo (execFilterTimeReached i s)
    unfold execFilterTimeReached
    split
    · exact ⟨_, rfl, deliver_settled i _ (settled_alike hs (setChannel_alike s i _))⟩
    · exact settlesTo_same hs
  | readerAnswer r answer =>
    change SettlesTo (execReaderAnswer r answer s)
    unfold execReaderAnswer
    split
    · split
      · split
        · exact settlesTo_settle _
        · exact ⟨_, rfl, failAttempt_settled r _ hs⟩
      · exact settlesTo_same hs
    · exact settlesTo_same hs
  | attemptTimeout r =>
    change SettlesTo (execAttemptTimeout r s)
    unfold execAttemptTimeout
    split
    · exact ⟨_, rfl, failAttempt_settled r _ hs⟩
    · exact settlesTo_same hs
  | pollPeriodStart =>
    change SettlesTo (execPollPeriodStart s)
    unfold execPollPeriodStart
    split
    · exact settlesTo_same hs
    · exact settlesTo_alike hs (settleAlike_of_same rfl rfl rfl rfl rfl rfl rfl rfl rfl rfl)
  | probeAnswer bytes =>
    change SettlesTo (execProbeAnswer bytes s)
    unfold execProbeAnswer
    split
    · split
      · exact ⟨_, rfl, endPoll_settled _ hs⟩
      · exact settlesTo_same hs
    · exact settlesTo_same hs
  | probeWaitExpiry => exact ⟨_, rfl, endPoll_settled _ hs⟩
  | tunnelStall =>
    change SettlesTo (execTunnelStall s)
    unfold execTunnelStall
    split
    · exact settlesTo_alike hs ((atPacing_alike s _).trans (stallAlert_alike _))
    · exact settlesTo_same hs
  | rejectLampTimeout =>
    change SettlesTo (execRejectLampTimeout s)
    unfold execRejectLampTimeout
    split
    · split
      · exact settlesTo_alike hs (setLamp_alike s _)
      · exact settlesTo_same hs
    · exact settlesTo_same hs
  | diverterPulseEnd k =>
    change SettlesTo (execDiverterPulseEnd k s)
    unfold execDiverterPulseEnd
    split
    · split
      · exact settlesTo_alike hs (atReturns_alike s _)
      · exact settlesTo_same hs
    · exact settlesTo_same hs
  | deadlineExpiry position => exact settlesTo_alike hs (loseEntry_alike s position)
  | holdTimerExpiry b => exact settlesTo_alike hs (holdTimerEnds_alike s b)
  | congestionTimerStep => exact congestionTimerStep_settled hs
  | loadCompletion =>
    change SettlesTo (execLoadCompletion s)
    unfold execLoadCompletion
    split
    · exact settlesTo_settle _
    all_goals exact settlesTo_same hs
  | saveCompletion readBack =>
    change SettlesTo (execSaveCompletion readBack s)
    unfold execSaveCompletion
    split
    · exact settlesTo_alike hs (completeSave_alike s _ _)
    all_goals exact settlesTo_same hs
  | overlengthLine characters =>
    change SettlesTo (execOverlengthLine characters s)
    unfold execOverlengthLine
    split
    · exact settlesTo_alike hs (setLink_alike s _)
    · exact settlesTo_same hs
  | lineDiscarded line =>
    change SettlesTo (execLineDiscarded line s)
    unfold execLineDiscarded
    split
    · exact settlesTo_alike hs (setLink_alike s _)
    · exact settlesTo_same hs
  | unknownCommand code fields =>
    change SettlesTo (execUnknownCommand code fields s)
    unfold execUnknownCommand
    split
    · exact settlesTo_same hs
    · exact settlesTo_report hs fun _ => rfl
  | st fields => exact settlesTo_report hs (withoutFields_report fields _)
  | al fields => exact settlesTo_report hs (withoutFields_report fields _)
  | ac fields => exact exec_ac_settled fields hs
  | am fields => exact exec_am_settled fields hs
  | tk fields => exact exec_tk_settled fields hs
  | tl fields => exact settlesTo_report hs fun t => by split <;> rfl
  | rr fields => exact settlesTo_report hs fun t => by split <;> (try split) <;> rfl
  | rs fields => exact settlesTo_report hs fun t => by split <;> (try split) <;> rfl
  | en fields => exact exec_en_settled fields hs
  | dr fields => exact exec_dr_settled fields hs
  | rt fields => exact exec_rt_settled fields hs
  | mk fields => exact exec_mk_settled fields hs
  | ss fields => exact exec_ss_settled fields hs
  | sq fields => exact settlesTo_report hs (withoutFields_report fields _)
  | ps fields => exact exec_ps_settled fields hs
  | pg fields => exact settlesTo_report hs fun t => by split <;> rfl
  | go fields => exact settlesTo_request hs (withoutFields_settled fields goEffect_settled)
  | sp fields => exact settlesTo_request hs (withoutFields_settled fields spEffect_settled)
  | cr fields => exact settlesTo_request hs (withoutFields_settled fields crEffect_settled)
  | hb fields =>
    exact settlesTo_request hs (withoutFields_settled fields fun t ht => settled_alike ht (setPause_alike t))
  | hr fields => exact settlesTo_request hs (withoutFields_settled fields fun _ _ => settle_isSettled _)
  | ld fields => exact settlesTo_request hs (withoutFields_settled fields ldEffect_settled)
  | sv fields => exact settlesTo_request hs (withoutFields_settled fields svEffect_settled)
  | xr fields => exact settlesTo_request hs (withoutFields_settled fields fun t _ => lineReset_settled t)
  | dg fields => exact settlesTo_report hs (withoutFields_report fields _)
  | replyEnd => exact settlesTo_alike hs (setLink_alike s _)

/-- Settles O59: a command settles its event, or the tests of `settle` cannot tell its result from the state that it
found. -/
theorem everyStepSettlesTheLine : Obligations.EveryStepSettlesTheLine := by
  intro s t hs hstep
  unfold step at hstep
  split at hstep
  case h_1 => cases hstep; exact hs
  case h_2 c rest _ =>
    have hrest : Settled { s with pending := rest } :=
      settled_alike hs (settleAlike_of_same rfl rfl rfl rfl rfl rfl rfl rfl rfl rfl)
    obtain ⟨u, hu, hsettled⟩ := exec_settles c hrest
    cases hu.symm.trans hstep
    exact hsettled

end Sys2Proof.Proofs
end

section
/-! PROOFS. The events of the inputs that nothing waits for (chapters 2, 9 and 10), the queue, and the commands that
find nothing to do. -/

namespace Sys2Proof.Proofs

open Sys2Proof.Machine Sys2Proof.Laws

/-! ## States by their blocks -/

/-- Two states are one where all their blocks are: what a frame `t = { s with … }` comes to, block by block. -/
theorem state_ext {s t : State} (belt : s.belt = t.belt) (inputs : s.inputs = t.inputs)
    (readers : s.readers = t.readers) (stage : s.stage = t.stage) (tunnel : s.tunnel = t.tunnel)
    (rinse : s.rinse = t.rinse) (pacing : s.pacing = t.pacing) (outbox : s.outbox = t.outbox)
    (registry : s.registry = t.registry) (returns : s.returns = t.returns) (tray : s.tray = t.tray)
    (sup : s.sup = t.sup) (link : s.link = t.link) (settings : s.settings = t.settings) (store : s.store = t.store)
    (freeIndex : s.freeIndex = t.freeIndex) (pending : s.pending = t.pending) : s = t := by
  cases s; cases t; simp_all

theorem sup_ext {u v : Supervisor} (mode : u.mode = v.mode) (draining : u.draining = v.draining)
    (runOn : u.runOn = v.runOn) (lineHeld : u.lineHeld = v.lineHeld) (alerts : u.alerts = v.alerts)
    (mask : u.mask = v.mask) (alertOutput : u.alertOutput = v.alertOutput) (storeOp : u.storeOp = v.storeOp)
    (lastSave : u.lastSave = v.lastSave) : u = v := by
  cases u; cases v; simp_all

theorem returns_ext {u v : Return} (stations : u.stations = v.stations) (enRoute : u.enRoute = v.enRoute)
    (pointers : u.pointers = v.pointers) (diverters : u.diverters = v.diverters)
    (returnBelt : u.returnBelt = v.returnBelt) : u = v := by
  cases u; cases v; simp_all

theorem belt_ext {u v : Belt} (forwardAcc : u.forwardAcc = v.forwardAcc) (odometer : u.odometer = v.odometer)
    (reverseAcc : u.reverseAcc = v.reverseAcc) (reverseCount : u.reverseCount = v.reverseCount)
    (timer : u.timer = v.timer) : u = v := by
  cases u; cases v; simp_all

theorem tray_ext {u v : Tray} (north : u.north = v.north) (south : u.south = v.south)
    (lineHeld : u.lineHeld = v.lineHeld) (congestionTimer : u.congestionTimer = v.congestionTimer)
    (congested : u.congested = v.congested) : u = v := by
  cases u; cases v; simp_all

theorem tunnel_ext {u v : Tunnel} (list : u.list = v.list) (slot : u.slot = v.slot) (lamp : u.lamp = v.lamp) :
    u = v := by
  cases u; cases v; simp_all

/-! ## The queue -/

/-- Settles O1. -/
theorem stepTakesTheFrontCommand : Obligations.StepTakesTheFrontCommand := by
  refine ⟨fun c rest s hpending => ?_, fun s hpending => ?_⟩
  · simp only [step, hpending]
  · simp only [step, hpending]

/-! ## The link while a reply is being sent -/

/-- Settles O3: every command of the link is a request, or asks first whether the receiver is on. -/
theorem linesAreLostWhileSending : Obligations.LinesAreLostWhileSending := by
  intro c s reply honLink hsending
  have hlost : ∀ (command : Text) (effect : State → State × Reply), takeRequest s command effect = s :=
    fun command effect => takeRequest_sending s command reply effect hsending
  have hoff : receiverOn s = false := by simp [receiverOn, hsending]
  cases c with
  | overlengthLine characters => exact congrArg _ (if_neg (by rw [hoff]; decide))
  | lineDiscarded line => exact congrArg _ (if_neg (by rw [hoff]; decide))
  | unknownCommand code fields =>
    change execUnknownCommand code fields s = _
    rw [execUnknownCommand, hlost, ite_self]
  | powerUp | forwardPulse | reversePulse | encStall | inputLevelChange | filterTimeReached | readerAnswer
  | attemptTimeout | pollPeriodStart | probeAnswer | probeWaitExpiry | tunnelStall | rejectLampTimeout
  | diverterPulseEnd | deadlineExpiry | holdTimerExpiry | congestionTimerStep | loadCompletion | saveCompletion
  | replyEnd => cases honLink
  | _ => exact congrArg _ (hlost _ _)

/-! ## The filtered events -/

/-- The state with one input's filtered state turned over, its owner not yet told (R17). -/
def turned (s : State) (i : Input) : State := { s with inputs := inputsTurned s i }

@[simp] theorem turned_frame (s : State) (i : Input) :
    (turned s i).belt = s.belt ∧ (turned s i).inputs = inputsTurned s i ∧ (turned s i).readers = s.readers
      ∧ (turned s i).stage = s.stage ∧ (turned s i).tunnel = s.tunnel ∧ (turned s i).rinse = s.rinse
      ∧ (turned s i).pacing = s.pacing ∧ (turned s i).outbox = s.outbox ∧ (turned s i).registry = s.registry
      ∧ (turned s i).returns = s.returns ∧ (turned s i).tray = s.tray ∧ (turned s i).sup = s.sup
      ∧ (turned s i).link = s.link ∧ (turned s i).settings = s.settings ∧ (turned s i).store = s.store
      ∧ (turned s i).freeIndex = s.freeIndex ∧ (turned s i).pending = s.pending :=
  ⟨rfl, rfl, rfl, rfl, rfl, rfl, rfl, rfl, rfl, rfl, rfl, rfl, rfl, rfl, rfl, rfl, rfl⟩

theorem exec_filterTimeReached {s : State} {i : Input} (h : (channel s i).qualifying = true) :
    exec (.filterTimeReached i) s = .next (deliver (turned s i) i (!(channel s i).filtered)) := by
  change execFilterTimeReached i s = _
  rw [execFilterTimeReached, if_pos h]
  rfl

theorem exec_turnsOn {s : State} {i : Input} (h : turnsOn s i) :
    exec (.filterTimeReached i) s = .next (deliver (turned s i) i true) := by
  obtain ⟨hqualifying, hinactive⟩ := h
  rw [exec_filterTimeReached hqualifying, hinactive, Bool.not_false]

theorem exec_turnsOff {s : State} {i : Input} (h : turnsOff s i) :
    exec (.filterTimeReached i) s = .next (deliver (turned s i) i false) := by
  obtain ⟨hqualifying, hactive⟩ := h
  rw [exec_filterTimeReached hqualifying, hactive, Bool.not_true]

theorem isActive_turned (s : State) (i j : Input) :
    isActive (turned s i) j = if i = j then !isActive s i else isActive s j :=
  isActive_setChannel s i j (filterTurned (channel s i))

/-- Settles O11: the owner's event touches none of what is left out. -/
theorem inputsAreFilteredOneByOne : Obligations.InputsAreFilteredOneByOne := by
  refine ⟨fun i high s => rfl, fun i s hqualifying => ?_⟩
  refine ⟨_, exec_filterTimeReached hqualifying, ?_⟩
  simp

/-! ## The return belt and the tray belts -/

theorem trayChannel_setTrayChannel (s : State) (b d : TrayBelt) (c : TrayChannel) :
    trayChannel (setTrayChannel s b c) d = if b = d then c else trayChannel s d := by
  cases b <;> cases d <;> rfl

theorem otherBelt_ne (b : TrayBelt) : b ≠ otherBelt b := by cases b <;> decide

/-- HEAD FULL as it leaves each belt (R152). -/
theorem headFullChange_channels (s : State) (b : TrayBelt) (active : Bool) :
    trayChannel (headFullChange s b active) b = { trayChannel s b with
        state :=
          match active, (trayChannel s b).state with
          | true, .running => .stoppedFull
          | true, .held _ => .stoppedFull
          | false, .stoppedFull => .running
          | _, other => other }
      ∧ trayChannel (headFullChange s b active) (otherBelt b) = trayChannel s (otherBelt b) := by
  have hother := otherBelt_ne b
  unfold headFullChange
  dsimp only
  cases active <;> cases hstate : (trayChannel s b).state <;>
    simp [trayChannel_setTrayChannel, hother, ← hstate]

/-- The HEAD FULL switches' owner is tray intake control (R20, R152). -/
theorem deliver_headFull (s : State) (b : TrayBelt) (active : Bool) :
    deliver s (headFullInput b) active = headFullChange s b active := by
  cases b <;> rfl

/-- Settles O16. -/
theorem fullSwitchesStopTheirBelts : Obligations.FullSwitchesStopTheirBelts := by
  refine ⟨fun s hqualifying => ?_, fun b s hqualifying => ?_⟩
  · rw [exec_filterTimeReached hqualifying]
    change Host.Outcome.next (recomputeReturnBelt (turned s .rf)) = _
    rw [recomputeReturnBelt, returnBeltShouldRun, isActive_turned, if_pos rfl, Bool.not_not]
    rfl
  · rw [exec_filterTimeReached hqualifying, deliver_headFull]
    obtain ⟨hbelt, hother⟩ := headFullChange_channels (turned s (headFullInput b)) b (!(channel s (headFullInput b)).filtered)
    refine ⟨_, rfl, hbelt.trans ?_, hother, ?_, ?_, ?_, ?_⟩
    · have hsame : trayChannel (turned s (headFullInput b)) b = trayChannel s b := by cases b <;> rfl
      rw [hsame]
      cases (channel s (headFullInput b)).filtered <;> cases (trayChannel s b).state <;> rfl
    · simp
    · simp
    · simp
    · apply state_ext <;> simp

/-- The four outcomes of a tray's arrival (R150). -/
theorem trayArrives_stands {s : State} {b : TrayBelt} (h : (trayChannel s b).state ≠ .running) :
    trayArrives s b = s := if_pos h

theorem trayArrives_free {s : State} {b : TrayBelt} (hrunning : (trayChannel s b).state = .running)
    (hfree : s.tray.congested = false) :
    trayArrives s b = setTrayChannel s b { trayChannel s b with holdCount := 0 } := by
  simp [trayArrives, hrunning, hfree]

theorem trayArrives_held {s : State} {b : TrayBelt} (hrunning : (trayChannel s b).state = .running)
    (hcongested : ¬s.tray.congested = false) (hbelow : (trayChannel s b).holdCount < par s .holdlim) :
    trayArrives s b = setTrayChannel s b
      { trayChannel s b with
        state := .held (par s .holdt * 10), holdCount := (trayChannel s b).holdCount + 1 } := by
  simp [trayArrives, hrunning, hcongested, hbelow]

theorem trayArrives_leaks {s : State} {b : TrayBelt} (hrunning : (trayChannel s b).state = .running)
    (hcongested : ¬s.tray.congested = false) (hreached : ¬(trayChannel s b).holdCount < par s .holdlim) :
    trayArrives s b = raise
      (setTrayChannel s b
        { trayChannel s b with holdCount := 0, leakCount := min 65535 ((trayChannel s b).leakCount + 1) })
      .trayLeak none := by
  simp [trayArrives, hrunning, hcongested, hreached, saturatingAdd, Config.wordLimit]

theorem trayArrives_other (s : State) (b : TrayBelt) :
    trayChannel (trayArrives s b) (otherBelt b) = trayChannel s (otherBelt b) := by
  have hne := otherBelt_ne b
  have hraise : ∀ t, trayChannel (raise t .trayLeak none) (otherBelt b) = trayChannel t (otherBelt b) := by
    intro t
    cases b <;> rfl
  unfold trayArrives
  dsimp only
  split
  · rfl
  · split
    · simp [trayChannel_setTrayChannel, hne]
    · split <;> simp [trayChannel_setTrayChannel, hne, hraise]

/-- Settles O17: the arrival's four branches on the belt's channel, none of which touches the other belt. -/
theorem traysAreHeldWhileCongested : Obligations.TraysAreHeldWhileCongested := by
  intro b s hon
  have hdeliver : deliver (turned s (headEye b)) (headEye b) true = trayArrives (turned s (headEye b)) b := by
    cases b <;> rfl
  have hsame : ∀ d, trayChannel (turned s (headEye b)) d = trayChannel s d := by
    intro d
    cases d <;> rfl
  rw [exec_turnsOn hon, hdeliver]
  refine ⟨_, rfl, (trayArrives_other _ _).trans (hsame _), ?_, by simp, by simp,
    by apply state_ext <;> simp⟩
  simp only [← hsame b]
  split
  case isTrue hstands => rw [trayArrives_stands hstands]; exact ⟨rfl, rfl⟩
  case isFalse hrunning =>
    have hrunning := Decidable.not_not.mp hrunning
    split
    case isTrue hfree =>
      rw [trayArrives_free hrunning hfree, trayChannel_setTrayChannel, if_pos rfl]
      exact ⟨rfl, by simp⟩
    case isFalse hcongested =>
      split
      case isTrue hbelow =>
        rw [trayArrives_held hrunning hcongested hbelow, trayChannel_setTrayChannel, if_pos rfl]
        exact ⟨rfl, by simp⟩
      case isFalse hreached =>
        rw [trayArrives_leaks hrunning hcongested hreached]
        generalize trayChannel (turned s (headEye b)) b = c
        refine ⟨?_, ?_⟩
        · cases b <;> rfl
        · have hraised := raise_raised (setTrayChannel (turned s (headEye b)) b
            { c with holdCount := 0, leakCount := min 65535 (c.leakCount + 1) }) .trayLeak none
          cases b <;> exact hraised

end Sys2Proof.Proofs
end

section
/-! PROOFS. Pulses short of a millimetre, the commands that find nothing to do, answers of the tag readers, and the
ends of the timers (sections 1.1, 2.4, 5.7 and chapters 9 to 11). -/

namespace Sys2Proof.Proofs

open Sys2Proof.Machine Sys2Proof.Laws

/-! ## The forward pulse short of a millimetre -/

theorem exec_forwardPulse (s : State) :
    exec .forwardPulse s = .next (travelEvents (forwardCount s) (pulseTravels s)) := rfl

/-- Settles O4: no travel event, and the accumulator keeps the whole sum. -/
theorem forwardPulseShortOfAMillimetre : Obligations.ForwardPulseShortOfAMillimetre := by
  intro s hshort
  have hnone : pulseTravels s = 0 := Nat.div_eq_of_lt hshort
  have hkept : (s.belt.forwardAcc + 100) % par s .epm = s.belt.forwardAcc + 100 := Nat.mod_eq_of_lt hshort
  have htimer : ∀ x : EncoderTimer, encoderSeen x =
      match x with
      | .running _ => .running 0
      | .idle => .idle
      | .expired => .expired := by
    intro x
    cases x <;> rfl
  rw [exec_forwardPulse, hnone]
  refine congrArg _ (state_ext (belt_ext hkept rfl rfl rfl (htimer _)) ?_ ?_ ?_ ?_ ?_ ?_ ?_ ?_ ?_ ?_ ?_ ?_ ?_ ?_ ?_ ?_)
  all_goals rfl

/-- Settles O30. -/
theorem pollPeriodTakesPoll : Obligations.PollPeriodTakesPoll := by
  intro s period phase hcycle
  change execPollPeriodStart s = _
  simp only [execPollPeriodStart, hcycle]

/-! ## Commands that find nothing to do -/

theorem stallLastTenth_iff (s : State) : stallLastTenth s = true ↔ s.pacing.stallTimer = .counting 1 := by
  simp [stallLastTenth]

theorem encoderLastTenth_false {s : State} (h : ∀ n, s.belt.timer = .running n → n + 1 < 30) :
    encoderLastTenth s = false := by
  cases htimer : s.belt.timer with
  | running n =>
    have hbelow := h n htimer
    simp only [encoderLastTenth, htimer]
    exact decide_eq_false (show ¬30 ≤ n + 1 by omega)
  | idle | expired => simp [encoderLastTenth, htimer]

theorem loseEntry_same {s : State} {i : Nat}
    (h : s.returns.returnBelt = false ∨ ∀ e ∈ s.returns.enRoute[i]?, 1 < e.deadline) : loseEntry s i = s := by
  unfold loseEntry
  split
  case h_1 => rfl
  case h_2 e hentry =>
    rcases h with hstands | hmore
    · simp [hstands]
    · have := hmore e hentry
      simp [lastTenth, this]

theorem holdTimerEnds_same {s : State} {b : TrayBelt} (h : ∀ n, (trayChannel s b).state = .held n → 1 < n) :
    holdTimerEnds s b = s := by
  unfold holdTimerEnds
  dsimp only
  split
  case h_1 n hheld => exact if_neg (h n hheld).not_ge
  all_goals rfl

/-- Settles O12: each command asks first for the state that it is an event of. -/
theorem eventsThatCannotAriseChangeNothing : Obligations.EventsThatCannotAriseChangeNothing := by
  refine ⟨?_, ?_, ?_, ?_, ?_, ?_, ?_, ?_, ?_, ?_, ?_⟩
  · intro i s hstopped
    exact if_neg (by rw [hstopped]; decide)
  · intro r s hidle
    change execAttemptTimeout r s = _
    simp only [execAttemptTimeout, hidle]
  · intro s hmore
    change execEncStall s = _
    rw [execEncStall, encoderLastTenth_false hmore]
    rfl
  · intro s hmore
    change execTunnelStall s = _
    rw [execTunnelStall, if_neg (mt (stallLastTenth_iff s).mp hmore)]
  · intro s hmore
    change execRejectLampTimeout s = _
    unfold execRejectLampTimeout
    split
    case h_1 n hlamp => rw [if_neg (hmore n hlamp).not_ge]
    case h_2 => rfl
  · intro k s hmore
    change execDiverterPulseEnd k s = _
    unfold execDiverterPulseEnd
    split
    case h_1 n hpulsing => rw [if_neg (hmore n hpulsing).not_ge]
    case h_2 => rfl
  · intro i s hnot
    exact congrArg _ (loseEntry_same hnot)
  · intro b s hmore
    exact congrArg _ (holdTimerEnds_same hmore)
  · intro s hnone
    change execLoadCompletion s = _
    simp only [execLoadCompletion, hnone]
  · intro found s hnone
    change execSaveCompletion found s = _
    simp only [execSaveCompletion, hnone]
  · intro s hnone
    refine ⟨?_, ?_⟩
    · change execPollPeriodStart s = _
      simp only [execPollPeriodStart, hnone]
    · change execProbeWaitExpiry s = _
      simp only [execProbeWaitExpiry, endPoll, pollPhase, hnone]

/-! ## Verdicts -/

theorem verdictOf_unknown (c : Settings) (cls : Option RackClass) (dose wash : Nat) (f : Flags) :
    verdictOf c cls dose wash f = .unknown ↔ f.unvouched = true := by
  unfold verdictOf
  split
  case isTrue hunvouched => simp [hunvouched]
  case isFalse hvouched =>
    split <;> simp [hvouched]

theorem verdictOf_clean (c : Settings) (cls : Option RackClass) (dose wash : Nat) (f : Flags) :
    verdictOf c cls dose wash f = .clean ↔
      f.unvouched = false ∧ requiredDose c cls ≤ dose ∧ requiredWash c cls ≤ wash ∧ f.door = false ∧ f.halted = false
        ∧ ¬(f.stalled = true ∧ paramGet c .stallrej = 1) := by
  unfold verdictOf
  split
  case isTrue hunvouched => simp [hunvouched]
  case isFalse hvouched =>
    have hvouched : f.unvouched = false := Bool.eq_false_iff.mpr hvouched
    split
    case isTrue hreached => exact ⟨fun _ => ⟨hvouched, hreached⟩, fun _ => rfl⟩
    case isFalse hshort => exact ⟨nofun, fun ⟨_, hreached⟩ => absurd hreached hshort⟩

/-- The greatest of four numbers is one of them, and none is above it. -/
theorem max_four (a b c d : Nat) : max (max a b) (max c d) = a ∨ max (max a b) (max c d) = b
    ∨ max (max a b) (max c d) = c ∨ max (max a b) (max c d) = d := by omega

/-- Settles O28. -/
theorem verdictFollowsTheRequirements : Obligations.VerdictFollowsTheRequirements := by
  intro c cls dose wash f
  refine ⟨?_, ?_, fun k => ?_, ?_, ?_⟩
  · rw [verdictOf_unknown]
    simp only [Flags.unvouched, Bool.or_eq_true, or_assoc]
  · rw [verdictOf_clean]
    simp only [Flags.unvouched, Bool.or_eq_false_iff, and_assoc, not_and_or, Bool.not_eq_true, ne_eq]
  · cases k <;> simp only [requiredDose, requiredWash] <;> omega
  · rcases max_four (paramGet c .rqdp) (paramGet c .rqdc) (paramGet c .rqdk) (paramGet c .rqdt) with h | h | h | h
    · exact ⟨.plate, h⟩
    · exact ⟨.cup, h⟩
    · exact ⟨.cutlery, h⟩
    · exact ⟨.tray, h⟩
  · rcases max_four (paramGet c .rqwp) (paramGet c .rqwc) (paramGet c .rqwk) (paramGet c .rqwt) with h | h | h | h
    · exact ⟨.plate, h⟩
    · exact ⟨.cup, h⟩
    · exact ⟨.cutlery, h⟩
    · exact ⟨.tray, h⟩

/-! ## Tag answers -/

/-- A digit character is the one that the card writes for its value. -/
theorem eq_digitChar_of_digitValue {c : Char} {n : Nat} (h : digitValue? c = some n) : n < 10 ∧ c = digitChar n := by
  unfold digitValue? at h
  split at h
  case isFalse => cases h
  case isTrue hrange =>
    obtain ⟨hlow, hhigh⟩ := hrange
    have hn : c.toNat - 48 = n := Option.some.inj h
    have hten : n < 10 := by omega
    refine ⟨hten, ?_⟩
    rw [digitChar, Nat.mod_eq_of_lt hten, ← hn, Nat.add_sub_cancel' hlow, Char.ofNat_toNat]

/-- A valid answer is the tag of the rack that it names (R22, R23). -/
theorem eq_tagText_of_validAnswer {rest : Text} {n : Rack} (h : validAnswer? rest = some n) : rest = tagText n := by
  unfold validAnswer? at h
  split at h
  case h_2 => cases h
  case h_1 ch ct cu ck =>
    split at h
    case h_2 => cases h
    case h_1 vh vt vu vk hh ht hu hk =>
      split at h
      case isFalse => cases h
      case isTrue hcheck =>
        obtain ⟨hh10, rfl⟩ := eq_digitChar_of_digitValue hh
        obtain ⟨ht10, rfl⟩ := eq_digitChar_of_digitValue ht
        obtain ⟨hu10, rfl⟩ := eq_digitChar_of_digitValue hu
        obtain ⟨hk10, rfl⟩ := eq_digitChar_of_digitValue hk
        have hn : n.val + 1 = 100 * vh + 10 * vt + vu := by
          unfold rackOfNumber? at h
          split at h
          · cases h; dsimp only; omega
          · cases h
        have hhundreds : (n.val + 1) / 100 = vh := by omega
        have htens : (n.val + 1) / 10 % 10 = vt := by omega
        have hunits : (n.val + 1) % 10 = vu := by omega
        rw [tagText]
        simp only [hhundreds, htens, hunits, hcheck, checkDigit]

/-- An attempt that fails short of the third is followed by the next (R25). -/
theorem failAttempt_next {s : State} {r : Reader} {a : Nat} (h : a < 3) :
    failAttempt s r a =
      setReader s r { attempt := some (a + 1), failures := min 65535 ((reader s r).failures + 1) } := by
  simp [failAttempt, attemptFailed, h, saturatingAdd, Config.wordLimit]

/-- A reader's channel changes no other reader and no other block. -/
theorem setReader_changes (s : State) (r : Reader) (c : ReaderChannel) :
    reader (setReader s r c) r = c ∧ (∀ q : Reader, q ≠ r → reader (setReader s r c) q = reader s q)
      ∧ setReader s r c = { s with readers := (setReader s r c).readers } := by
  refine ⟨by simp, fun q hq => ?_, ?_⟩
  · simp [hq.symm]
  · cases r <;> rfl

/-- Settles O34: the echo and the tag are read back as written, and nothing else reads as they do. -/
theorem answersAreJudgedByEchoAndCheckDigit : Obligations.AnswersAreJudgedByEchoAndCheckDigit := by
  intro r s a echo rest hattempt
  have hexec : exec (.readerAnswer r (echo :: rest)) s = execReaderAnswer r (echo :: rest) s := rfl
  refine ⟨fun hecho _ => ?_, fun hecho hlow hlast htag => ?_⟩
  · have hother : digitValue? echo ≠ some a := fun h => hecho (eq_digitChar_of_digitValue h).2
    rw [hexec]
    simp only [execReaderAnswer, hattempt, if_neg hother]
  · have hvalue : digitValue? echo = some a := by
      rw [hecho, digitValue_digitChar, Nat.mod_eq_of_lt (by omega)]
    have hinvalid : validAnswer? rest = none :=
      Option.eq_none_iff_forall_ne_some.mpr fun n hn => htag n (eq_tagText_of_validAnswer hn)
    refine ⟨failAttempt s r a, ?_, ?_⟩
    · rw [hexec]
      simp only [execReaderAnswer, hattempt, hvalue, if_true, hinvalid]
    · rw [failAttempt_next hlast]
      exact setReader_changes s r _

end Sys2Proof.Proofs
end

section
/-! PROOFS. What settling an event changes (R35, R161, R162): the alert that it can raise, and all that it does where
nobody waits. -/

namespace Sys2Proof.Proofs

open Sys2Proof.Machine Sys2Proof.Laws

/-! ## The alert that a decision can raise -/

theorem alert_decideAdmission {s : State} (o : ReadOutcome) {k : AlertKind} (h : k ≠ .entryRefused) :
    alert (decideAdmission s o) k = alert s k := by
  have henrol : alert (autoEnrol s o) k = alert s k := by simp [alert]
  rcases decideAdmission_cases s o with ⟨-, hadmit⟩ | ⟨r, -, hwait⟩
  · rw [hadmit, ← henrol]
    simp [alert]
  · rw [hwait, ← henrol]
    split
    · rw [alert_raise, if_neg h.symm]
      rfl
    · rfl

theorem alert_reevaluate {s : State} {k : AlertKind} (h : k ≠ .entryRefused) :
    alert (reevaluate s) k = alert s k := by
  unfold reevaluate
  split
  · split
    · rfl
    · exact alert_decideAdmission _ h
  all_goals rfl

/-- Settling an event raises no kind but ENTRY_REFUSED, which the decision on a waiting rack raises (R34). -/
theorem alert_settle {s : State} {k : AlertKind} (h : k ≠ .entryRefused) : alert (settle s) k = alert s k := by
  have hmode : ∀ (t : State) (m : LineMode), alert (changeMode t m) k = alert t k := fun t m => by simp [alert]
  have hdrain : ∀ t, alert (drainTest t) k = alert t k := by
    intro t
    unfold drainTest
    split
    · rw [alert_reevaluate h, hmode]
      rfl
    · rfl
  have hrunOn : ∀ t, alert (runOnTest t) k = alert t k := by
    intro t
    unfold runOnTest
    split
    · rw [alert_reevaluate h, hmode]
      rfl
    · rfl
  have hoccupied : ∀ t, alert (runOnWhileOccupied t) k = alert t k := fun t => by simp [alert]
  rw [settle, hrunOn, hdrain, hoccupied, alert_reevaluate h]

/-- A raise stands once the event is settled. -/
theorem raised_settle {s t : State} {k : AlertKind} {odometer : Odometer} {rack : Option Rack}
    (h : Raised s t k odometer rack) (hk : k ≠ .entryRefused) : Raised s (settle t) k odometer rack := by
  unfold Raised at h ⊢
  rw [alert_settle hk, h]

/-! ## A change of mode by its blocks -/

@[simp] theorem alert_changeMode (s : State) (m : LineMode) (k : AlertKind) :
    alert (changeMode s m) k = alert s k := by
  simp [alert]

/-- A change of mode touches the belt's timer, the pacing controller, the return belt with its diverters, the tray
belts and the line supervisor, and nothing else (R157). -/
theorem changeMode_eq (s : State) (m : LineMode) :
    changeMode s m = { s with
      belt := { s.belt with timer := (changeMode s m).belt.timer }
      pacing := (changeMode s m).pacing
      returns := { s.returns with
        returnBelt := !stopsTrays m && !isActive s .rf
        diverters := if m.isHalt then Vector.replicate 4 .off else s.returns.diverters }
      tray := { s.tray with
        north := trayAtModeChange s.sup.mode m (isActive s .fn) s.tray.north
        south := trayAtModeChange s.sup.mode m (isActive s .fs) s.tray.south }
      sup := { s.sup with mode := m, runOn := if m = .run then 0 else s.sup.runOn } } := by
  apply state_ext <;> simp [changeMode_returns, changeMode_trays, changeMode_sup]
  exact belt_ext (by simp) (by simp) (by simp) (by simp) rfl

theorem trayAtModeChange_same {old new : LineMode} (headFull : Bool) (c : TrayChannel) (hold : stopsTrays old = false)
    (hnew : stopsTrays new = false) : trayAtModeChange old new headFull c = c := by
  simp [trayAtModeChange, hold, hnew]

/-- Between the modes in which the tray belts run, a change of mode leaves them and the diverters alone. -/
theorem changeMode_moving {s : State} {m : LineMode} (hold : stopsTrays s.sup.mode = false)
    (hnew : stopsTrays m = false) :
    changeMode s m = { s with
      belt := { s.belt with timer := (changeMode s m).belt.timer }
      pacing := (changeMode s m).pacing
      returns := { s.returns with returnBelt := !isActive s .rf }
      sup := { s.sup with mode := m, runOn := if m = .run then 0 else s.sup.runOn } } := by
  have hhalt : m.isHalt = false := by
    rw [Bool.eq_false_iff]
    exact fun h => Bool.eq_false_iff.mp hnew (stopsTrays_of_isHalt h)
  have heq := changeMode_eq s m
  rw [trayAtModeChange_same _ _ hold hnew, trayAtModeChange_same _ _ hold hnew, hnew, hhalt] at heq
  exact heq

/-! ## Settling where nobody waits -/

theorem nobodyWaits_of_stage {s t : State} (h : nobodyWaits s = true) (hstage : t.stage = s.stage) :
    nobodyWaits t = true := by
  rwa [nobodyWaits, hstage]

theorem nobodyWaits_of_approach {s : State} (h : s.stage = .empty ∨ s.stage = .reading) : nobodyWaits s = true := by
  rcases h with h | h <;> simp [nobodyWaits, h]

theorem nobodyWaits_of_admitting {s : State} {p : Pending} {n : Nat} {held : Option ReadOutcome}
    (h : s.stage = .admitting p n held) : nobodyWaits s = true := by
  simp [nobodyWaits, h]

theorem runOnWhileOccupied_empty {s : State} (h : lineEmpty s = true) : runOnWhileOccupied s = s := if_pos h

/-- An occupied line where nobody waits has its run-on count set to 0, and nothing else happens (R161). -/
theorem settle_occupied {s : State} (hnobody : nobodyWaits s = true) (hoccupied : lineEmpty s = false) :
    settle s = { s with sup := { s.sup with runOn := 0 } } := by
  have hrunOn : runOnWhileOccupied s = { s with sup := { s.sup with runOn := 0 } } :=
    if_neg (by rw [hoccupied]; decide)
  have hempty : lineEmpty { s with sup := { s.sup with runOn := 0 } } = false := hoccupied
  rw [settle, reevaluate_nobodyWaits s hnobody, hrunOn, drainTest, if_neg (by simp [drainEnds, hempty]), runOnTest,
    if_neg (by simp [runOnEnds, hempty])]

/-- An empty line where nobody waits parks at the end of a drain (R162). -/
theorem settle_drained {s : State} (hnobody : nobodyWaits s = true) (hdrain : drainEnds s = true) :
    settle s = changeMode { s with sup := { s.sup with draining := false } } .parked := by
  have hempty : lineEmpty s = true := by simp_all [drainEnds]
  have hparks : reevaluate (changeMode { s with sup := { s.sup with draining := false } } .parked)
      = changeMode { s with sup := { s.sup with draining := false } } .parked :=
    reevaluate_nobodyWaits _ (nobodyWaits_of_stage hnobody (by simp))
  rw [settle, reevaluate_nobodyWaits s hnobody, runOnWhileOccupied_empty hempty, drainTest, if_pos hdrain, hparks,
    runOnTest, if_neg (by simp [runOnEnds, changeMode_sup])]

/-- An empty line where nobody waits parks when its run-on is complete (R161). -/
theorem settle_runOut {s : State} (hnobody : nobodyWaits s = true) (hrunOn : runOnEnds s = true) :
    settle s = changeMode { s with sup := { s.sup with runOn := 0 } } .parked := by
  have hempty : lineEmpty s = true := by simp_all [runOnEnds]
  have hdrain : drainEnds s = false := by simp_all [runOnEnds, drainEnds]
  have hparks : reevaluate (changeMode { s with sup := { s.sup with runOn := 0 } } .parked)
      = changeMode { s with sup := { s.sup with runOn := 0 } } .parked :=
    reevaluate_nobodyWaits _ (nobodyWaits_of_stage hnobody (by simp))
  rw [settle, reevaluate_nobodyWaits s hnobody, runOnWhileOccupied_empty hempty, drainTest,
    if_neg (by rw [hdrain]; decide), runOnTest, if_pos hrunOn, hparks]

/-- Where nobody waits and neither a drain nor a run-on is complete, an empty line settles nothing. -/
theorem settle_stays {s : State} (hnobody : nobodyWaits s = true) (hempty : lineEmpty s = true)
    (hdrain : drainEnds s = false) (hrunOn : runOnEnds s = false) : settle s = s := by
  rw [settle, reevaluate_nobodyWaits s hnobody, runOnWhileOccupied_empty hempty, drainTest,
    if_neg (by rw [hdrain]; decide), runOnTest, if_neg (by rw [hrunOn]; decide)]

/-- Where nobody waits, settling an event sets the run-on count of an occupied line to 0, parks an empty RUN line
whose drain or run-on is complete, or does nothing. -/
theorem settle_cases {s : State} (hnobody : nobodyWaits s = true) :
    (lineEmpty s = false ∧ settle s = { s with sup := { s.sup with runOn := 0 } })
      ∨ (lineEmpty s = true ∧ s.sup.mode = .run
          ∧ ∃ draining runOn,
              settle s = changeMode { s with sup := { s.sup with draining := draining, runOn := runOn } } .parked)
      ∨ (lineEmpty s = true ∧ settle s = s) := by
  cases hempty : lineEmpty s with
  | false => exact .inl ⟨rfl, settle_occupied hnobody hempty⟩
  | true =>
    refine .inr ?_
    cases hdrain : drainEnds s with
    | true =>
      exact .inl ⟨rfl, by simp_all [drainEnds], false, s.sup.runOn, settle_drained hnobody hdrain⟩
    | false =>
      cases hrunOn : runOnEnds s with
      | true =>
        exact .inl ⟨rfl, by simp_all [runOnEnds], s.sup.draining, 0, settle_runOut hnobody hrunOn⟩
      | false => exact .inr ⟨rfl, settle_stays hnobody hempty hdrain hrunOn⟩

/-- What settling leaves alone where nobody waits, besides what it always does. -/
theorem settle_quiet {s : State} (hnobody : nobodyWaits s = true) :
    (settle s).stage = s.stage ∧ (settle s).registry = s.registry
      ∧ (settle s).returns = { s.returns with returnBelt := (settle s).returns.returnBelt }
      ∧ (settle s).tray = s.tray ∧ (settle s).sup.alerts = s.sup.alerts ∧ (settle s).sup.alertOutput = s.sup.alertOutput := by
  rcases settle_cases hnobody with ⟨-, hsettle⟩ | ⟨-, hrun, draining, runOn, hsettle⟩ | ⟨-, hsettle⟩
  · rw [hsettle]
    exact ⟨rfl, rfl, rfl, rfl, rfl, rfl⟩
  · rw [hsettle]
    refine ⟨by simp, by simp, ?_, ?_, by simp, by simp⟩
    · rw [changeMode_moving (by simp [hrun, stopsTrays]) rfl]
    · rw [changeMode_moving (by simp [hrun, stopsTrays]) rfl]
  · rw [hsettle]
    exact ⟨rfl, rfl, rfl, rfl, rfl, rfl⟩

/-- A line that is not in RUN keeps its mode where nobody waits (R161, R162). -/
theorem settle_mode {s : State} (hnobody : nobodyWaits s = true) (hmode : s.sup.mode ≠ .run) :
    (settle s).sup.mode = s.sup.mode := by
  rcases settle_cases hnobody with ⟨-, hsettle⟩ | ⟨-, hrun, -⟩ | ⟨-, hsettle⟩
  · rw [hsettle]
  · exact absurd hrun hmode
  · rw [hsettle]

end Sys2Proof.Proofs
end

section
/-! PROOFS. The diverter eyes (section 9.4), the timers at their own commands, and power-up and saves (chapters 7
and 11). -/

namespace Sys2Proof.Proofs

open Sys2Proof.Machine Sys2Proof.Laws

/-! ## The diverter eyes -/

theorem modify_append_length {α : Type} (before after : List α) (e : α) (f : α → α) :
    (before ++ e :: after).modify before.length f = before ++ f e :: after := by
  induction before with
  | nil => simp
  | cons x before ih => simpa using ih

theorem deliver_diverterEye (s : State) (k : Station) : deliver s (diverterEye k) true = diverterEyeBlocked s k := by
  match k with
  | 0 | 1 | 2 | 3 => rfl

theorem diverterEyeBlocked_takes {s : State} {k : Station} {before after : List EnRoute} {e : EnRoute}
    (hlist : s.returns.enRoute = before ++ e :: after) (holder : ∀ x ∈ before, x.lastEye ≠ k.val)
    (heye : e.lastEye = k.val) :
    diverterEyeBlocked s k =
      if e.target = some k then setPlaceOf (removeEntry (pulseDiverter s k) before.length) e.rack (.atStation k)
      else moveEntryOn s before.length (k.val + 1) := by
  have hentry : s.returns.enRoute[before.length]? = some e := by simp [hlist]
  simp only [diverterEyeBlocked, oldestAt_append hlist holder heye, hentry]

theorem pulseDiverter_eq (s : State) (k : Station) :
    pulseDiverter s k =
      { s with returns := { s.returns with
          diverters :=
            if s.sup.mode.isHalt then s.returns.diverters else s.returns.diverters.set k (.pulsing 6) } } := by
  unfold pulseDiverter
  split <;> rfl

theorem moveEntryOn_append {s : State} {before after : List EnRoute} {e : EnRoute} (lastEye : Nat)
    (hlist : s.returns.enRoute = before ++ e :: after) :
    moveEntryOn s before.length lastEye =
      { s with returns := { s.returns with
          enRoute := before ++ { e with lastEye := lastEye, deadline := par s .retleg * 10 } :: after } } := by
  simp only [moveEntryOn, hlist, modify_append_length]
  rfl

/-- Settles O37: the eye finds the oldest entry by its position, and acts by that entry's target. -/
theorem diverterEyesSortTheRacks : Obligations.DiverterEyesSortTheRacks := by
  intro s k hon
  rw [exec_turnsOn hon, deliver_diverterEye]
  refine ⟨fun before after e hlist holder heye => ?_, fun hnone => ?_⟩
  · have hturned : (turned s (diverterEye k)).returns.enRoute = before ++ e :: after := hlist
    rw [diverterEyeBlocked_takes hturned holder heye]
    refine ⟨fun htarget => ?_, fun htarget => ?_⟩
    · have hpulsed : (pulseDiverter (turned s (diverterEye k)) k).returns.enRoute = before ++ e :: after := by
        rw [pulseDiverter_eq]
        exact hlist
      rw [if_pos htarget, removeEntry_append hpulsed, pulseDiverter_eq]
      exact ⟨_, rfl, setPlaceOf_onlyPlaced _ _ _, setPlaceOf_eq _ _ _⟩
    · rw [if_neg htarget, moveEntryOn_append _ hturned]
      rfl
  · have hstray : diverterEyeBlocked (turned s (diverterEye k)) k = raise (turned s (diverterEye k)) .returnStray none := by
      have hnone' : oldestAt (turned s (diverterEye k)) k.val = none := oldestAt_eq_none hnone
      simp only [diverterEyeBlocked, hnone']
    rw [hstray]
    exact ⟨_, rfl, raise_raised (turned s (diverterEye k)) _ _, rfl⟩

/-! ## The timers at their own commands -/

theorem stallAlert_eq (s : State) :
    stallAlert s = { s with
      tunnel := { s.tunnel with
        list := s.tunnel.list.map fun r => { r with flags := { r.flags with stalled := true } } }
      sup := (raise s .tunnelStall none).sup } := by
  simp [stallAlert, flagRecords, raise, raiseMarked, refreshAlertOutput]

theorem exec_diverterPulseEnd {s : State} {k : Station} {n : Nat} (hpulsing : s.returns.diverters[k] = .pulsing n)
    (hlast : n ≤ 1) :
    exec (.diverterPulseEnd k) s =
      .next { s with returns := { s.returns with diverters := s.returns.diverters.set k .off } } := by
  change execDiverterPulseEnd k s = _
  simp only [execDiverterPulseEnd, hpulsing, if_pos hlast]

theorem holdTimerEnds_last {s : State} {b : TrayBelt} {n : Nat} (hheld : (trayChannel s b).state = .held n)
    (hlast : n ≤ 1) : holdTimerEnds s b = setTrayChannel s b { trayChannel s b with state := .running } := by
  simp only [holdTimerEnds, hheld, if_pos hlast]

theorem loseEntry_last {s : State} {before after : List EnRoute} {e : EnRoute}
    (hlist : s.returns.enRoute = before ++ e :: after) (hlast : e.deadline ≤ 1) (hruns : s.returns.returnBelt = true) :
    loseEntry s before.length
      = loseRack { s with returns := { s.returns with enRoute := before ++ after } } e := by
  have hentry : s.returns.enRoute[before.length]? = some e := by simp [hlist]
  have htenth : lastTenth e = true := decide_eq_true hlast
  simp only [loseEntry, hentry, hruns, htenth, Bool.and_self, if_true, removeEntry_append hlist]

/-- What a loss changes: the row of its rack, and RETURN_LOST (R139, R143). -/
theorem loseRack_changes (s : State) (e : EnRoute) :
    Raised s (loseRack s e) .returnLost s.belt.odometer e.rack ∧ OnlyPlaced s (loseRack s e) e.rack .lost
      ∧ loseRack s e = { s with
          registry := (loseRack s e).registry
          sup := { s.sup with
            alerts := (loseRack s e).sup.alerts, alertOutput := (loseRack s e).sup.alertOutput } } := by
  have hsup : (loseRack s e).sup = (raise s .returnLost e.rack).sup := by simp [loseRack]
  refine ⟨?_, setPlaceOf_onlyPlaced (raise s .returnLost e.rack) e.rack .lost, ?_⟩
  · have hraised := raise_raised s .returnLost e.rack
    unfold Raised alert at hraised ⊢
    rw [hsup, hraised]
  · rw [hsup]
    exact setPlaceOf_eq (raise s .returnLost e.rack) e.rack .lost

/-- Settles O40. -/
theorem timersRunOut : Obligations.TimersRunOut := by
  refine ⟨fun s hlast => ?_, fun s n hlamp hlast => ?_, fun s k n hpulsing hlast => ?_, fun s b n hheld hlast => ?_,
    fun s before after e hlist hlast hruns => ?_⟩
  · refine ⟨stallAlert { s with pacing := { s.pacing with stallTimer := .reached } }, ?_, ?_, ?_⟩
    · change execTunnelStall s = _
      rw [execTunnelStall, if_pos ((stallLastTenth_iff s).mpr hlast)]
    · rw [stallAlert_eq]
      exact raise_raised { s with pacing := { s.pacing with stallTimer := .reached } } .tunnelStall none
    · rw [stallAlert_eq]
      rfl
  · change execRejectLampTimeout s = _
    simp only [execRejectLampTimeout, hlamp, if_pos hlast, lampOff]
  · refine ⟨_, exec_diverterPulseEnd hpulsing hlast, by simp, fun j hj => ?_, rfl⟩
    have hne : ¬k.val = j.val := fun h => hj (Fin.ext h).symm
    simp [hne]
  · have hother := otherBelt_ne b
    refine ⟨setTrayChannel s b { trayChannel s b with state := .running },
      congrArg Host.Outcome.next (holdTimerEnds_last hheld hlast), ?_, ?_, ?_⟩
    · simp [trayChannel_setTrayChannel]
    · simp [trayChannel_setTrayChannel, hother]
    · cases b <;> rfl
  · refine ⟨_, congrArg Host.Outcome.next (loseEntry_last hlist hlast hruns), ?_⟩
    exact loseRack_changes { s with returns := { s.returns with enRoute := before ++ after } } e

/-! ## Power-up -/

/-- A stored serial outside 1 to 999999 counts as 1 (R114). -/
def serialBase (n : Nat) : Nat := if 1 ≤ n ∧ n ≤ 999999 then n else 1

theorem serialBase_cases (n : Nat) :
    (1 ≤ n ∧ n ≤ 999999 ∧ serialBase n = n) ∨ (¬(1 ≤ n ∧ n ≤ 999999) ∧ serialBase n = 1) := by
  unfold serialBase
  split
  case isTrue h => exact .inl ⟨h.1, h.2, rfl⟩
  case isFalse h => exact .inr ⟨h, rfl⟩

theorem serialAtPowerUp_eq (n : Nat) :
    serialAtPowerUp n =
      if 999999 < serialBase n + 1000 then serialBase n + 1000 - 999999 else serialBase n + 1000 := rfl

theorem serialAtPowerUp_range (n : Nat) : 1 ≤ serialAtPowerUp n ∧ serialAtPowerUp n ≤ 999999 := by
  have hbase := serialBase_cases n
  rw [serialAtPowerUp_eq]
  split <;> omega

/-- The three cases of the next serial (R114). -/
theorem serialAtPowerUp_cases (n : Nat) :
    (1 ≤ n ∧ n ≤ 998999 → serialAtPowerUp n = n + 1000)
      ∧ (998999 < n ∧ n ≤ 999999 → serialAtPowerUp n = n + 1000 - 999999)
      ∧ (n = 0 ∨ 999999 < n → serialAtPowerUp n = 1001) := by
  have hbase := serialBase_cases n
  rw [serialAtPowerUp_eq]
  split <;> omega

/-- The card after power-up (R158). -/
def poweredUp (rate : LinkRate) (address : Nat) (levels : Vector Bool 20) (s : State) : State :=
  { State.reset with
    inputs := inputsAtPowerUp levels
    outbox := { queue := [], nextSerial := serialAtPowerUp (storedSerial s) }
    link := { State.reset.link with rate := rate, address := address }
    store := s.store
    freeIndex := s.freeIndex
    pending := s.pending }

theorem exec_powerUp (rate : LinkRate) (address : Nat) (levels : Vector Bool 20) (s : State) :
    exec (.powerUp rate address levels) s = .next (poweredUp rate address levels s) := rfl

theorem poweredUp_outbox (rate : LinkRate) (address : Nat) (levels : Vector Bool 20) (s : State) :
    (poweredUp rate address levels s).outbox = { queue := [], nextSerial := serialAtPowerUp (storedSerial s) } := by
  simp only [poweredUp]

theorem channel_poweredUp (rate : LinkRate) (address : Nat) (levels : Vector Bool 20) (s : State) (i : Input) :
    channel (poweredUp rate address levels s) i =
      { level := levels[i.index], filtered := false,
        qualifying := levels[i.index] == factorySettings.pol[i.index] } := by
  have hi : Input.all[i.index.val]? = some i := by cases i <;> rfl
  have hinputs : channel (poweredUp rate address levels s) i = (inputsAtPowerUp levels)[i.index] := rfl
  rw [hinputs, inputsAtPowerUp, Fin.getElem_fin, vectorOf_getElem, List.getElem?_map, hi]
  rfl

/-- A HALT request raises no kind but ESTOP (R163). -/
theorem alert_requestHalt (s : State) (cause : HaltCause) {k : AlertKind} (h : k ≠ .estop) :
    alert (requestHalt s cause) k = alert s k := by
  have hraise : ∀ t : State, alert (if cause = .estop then raise t .estop none else t) k = alert t k := by
    intro t
    split
    · rw [alert_raise, if_neg h.symm]
    · rfl
  unfold requestHalt
  by_cases hhalt : s.sup.mode.isHalt = true
  · rw [if_pos hhalt]
    exact hraise _
  · rw [if_neg hhalt, alert_changeMode]
    exact hraise _

theorem alert_modeAtLoadCompletion (s : State) {k : AlertKind} (h : k ≠ .estop) :
    alert (modeAtLoadCompletion s) k = alert s k := by
  unfold modeAtLoadCompletion
  split
  · split
    · exact alert_requestHalt s _ h
    · simp [alert]
  · rfl

/-- The values of a load handed over, before the image is judged (R168). -/
def handedOver (s : State) (kind : LoadKind) (i : StoreImage) : State :=
  match kind with
  | .powerUp => placeEarlyReads (loadTables (adoptSettings s i.settings true) i)
  | .lineReset => adoptSettings s (keepZoneTable s.settings i.settings) true

theorem handOver_eq (s : State) (kind : LoadKind) (image : Option StoreImage) :
    handOver s kind image =
      setDemand (raiseIfBad (handedOver s kind (image.getD factoryImage)) image)
        (par (handedOver s kind (image.getD factoryImage)) .vnom) := by
  cases kind <;> rfl

theorem handedOver_alerts (s : State) (kind : LoadKind) (i : StoreImage) :
    (handedOver s kind i).sup.alerts = s.sup.alerts ∧ (handedOver s kind i).belt.odometer = s.belt.odometer := by
  cases kind <;> simp [handedOver, loadTables, loadRegistry, setMask, refreshAlertOutput]

/-- The load completion raises SETTINGS_DEFAULT for a bad image, and what follows on the event leaves that standing
(R168). -/
theorem completeLoad_bad (s : State) (kind : LoadKind) (hbad : goodImage? s.store = none) :
    Raised s (completeLoad s kind (goodImage? s.store)) .settingsDefault s.belt.odometer none := by
  rw [hbad]
  refine raised_settle ?_ (by decide)
  obtain ⟨halerts, hodometer⟩ := handedOver_alerts s kind factoryImage
  have hraised := raise_raised (handedOver s kind factoryImage) .settingsDefault none
  have hpolling : ∀ t k, alert (endStoreOp (beginPolling t)) k = alert t k := by
    intro t k
    simp [alert, endStoreOp]
  rw [Raised, alert_modeAtLoadCompletion _ (by decide), hpolling, handOver_eq]
  rw [hodometer] at hraised
  simp only [Raised, alert, halerts] at hraised
  exact hraised

/-- Settles O41: the stored serial's three cases, and the load completion's frame. -/
theorem powerUpSkipsTheSerial : Obligations.PowerUpSkipsTheSerial := by
  refine ⟨fun rate address levels s => ?_, fun s kind hloading => ?_⟩
  · obtain ⟨hlow, hhigh⟩ := serialAtPowerUp_range (storedSerial s)
    refine ⟨_, exec_powerUp rate address levels s, rfl, ?_⟩
    simp only [poweredUp_outbox]
    refine ⟨hlow, hhigh, rfl, fun n hstored => ?_⟩
    have hserial : storedSerial s = n := by
      rcases hstored with hmixed | ⟨i, check, hwhole, hn⟩
      · simp only [storedSerial, hmixed]
      · simp only [storedSerial, hwhole, hn]
    have hcases := serialAtPowerUp_cases n
    rw [← hserial] at hcases ⊢
    exact hcases
  · refine ⟨completeLoad s kind (goodImage? s.store), ?_, by simp, fun hbad => ?_⟩
    · change execLoadCompletion s = _
      simp only [execLoadCompletion, hloading]
    · exact completeLoad_bad s kind hbad

/-- Settles O42. -/
theorem powerUpStartsEveryBlock : Obligations.PowerUpStartsEveryBlock := by
  intro rate address levels s
  refine ⟨_, exec_powerUp rate address levels s, rfl, rfl, rfl, channel_poweredUp rate address levels s, ?_⟩
  rw [poweredUp_outbox]
  simp only [poweredUp]

end Sys2Proof.Proofs
end

section
/-! PROOFS. What halts the line (sections 1.3, 6.1 and 11.4): ESTOP, the encoder stall, and TABLE FULL, which only
holds it. -/

namespace Sys2Proof.Proofs

open Sys2Proof.Machine Sys2Proof.Laws

/-! ## A HALT request -/

/-- The state as a HALT request finds the blocks: every tunnel record HALTED, and ESTOP raised for its own cause
(R163). -/
def haltFlagged (s : State) (cause : HaltCause) : State :=
  let t := flagRecords s (fun _ => true) fun f => { f with halted := true }
  if cause = .estop then raise t .estop none else t

theorem requestHalt_enters {s : State} (cause : HaltCause) (h : s.sup.mode.isHalt = false) :
    requestHalt s cause = changeMode (haltFlagged s cause) (.halt cause) := if_neg (by rw [h]; decide)

theorem requestHalt_halted {s : State} (cause : HaltCause) (h : s.sup.mode.isHalt = true) :
    requestHalt s cause = { haltFlagged s cause with
      sup := { (haltFlagged s cause).sup with mode := .halt cause } } := if_pos h

/-- The flags touch the tunnel list, and the raise the line supervisor. -/
@[simp] theorem haltFlagged_frame (s : State) (cause : HaltCause) :
    (haltFlagged s cause).belt = s.belt ∧ (haltFlagged s cause).inputs = s.inputs
      ∧ (haltFlagged s cause).readers = s.readers ∧ (haltFlagged s cause).stage = s.stage
      ∧ (haltFlagged s cause).tunnel.slot = s.tunnel.slot ∧ (haltFlagged s cause).rinse = s.rinse
      ∧ (haltFlagged s cause).pacing = s.pacing ∧ (haltFlagged s cause).outbox = s.outbox
      ∧ (haltFlagged s cause).registry = s.registry ∧ (haltFlagged s cause).returns = s.returns
      ∧ (haltFlagged s cause).tray = s.tray ∧ (haltFlagged s cause).sup.mode = s.sup.mode
      ∧ (haltFlagged s cause).sup.draining = s.sup.draining := by
  unfold haltFlagged
  dsimp only
  split <;> simp [flagRecords]

theorem isActive_haltFlagged (s : State) (cause : HaltCause) (i : Input) :
    isActive (haltFlagged s cause) i = isActive s i := by
  simp [isActive, channel]

/-- What settling leaves alone in HALT: the stage and the run-on count are all that it can change (R35, R161). -/
theorem settle_halted {s : State} (h : s.sup.mode.isHalt = true) :
    (settle s).belt = s.belt ∧ (settle s).pacing = s.pacing ∧ (settle s).registry = s.registry
      ∧ (settle s).returns = s.returns ∧ (settle s).tray = s.tray ∧ (settle s).sup.mode = s.sup.mode
      ∧ (settle s).sup.draining = s.sup.draining ∧ (settle s).sup.alerts = s.sup.alerts := by
  obtain ⟨g, hg⟩ := settle_halt s h
  simp [hg]

/-- A line that enters HALT: the return belt, the diverters and the tray belts are off, and the belt stands, once the
event is settled (R94, R141, R145, R153, R163). -/
theorem halt_entered {s : State} (cause : HaltCause) (h : s.sup.mode.isHalt = false) :
    (settle (requestHalt s cause)).pacing.beltRun = false
      ∧ (settle (requestHalt s cause)).returns =
          { s.returns with returnBelt := false, diverters := Vector.replicate 4 .off }
      ∧ (settle (requestHalt s cause)).tray.north = { s.tray.north with state := .stoppedLine }
      ∧ (settle (requestHalt s cause)).tray.south = { s.tray.south with state := .stoppedLine } := by
  obtain ⟨hmode, -⟩ := requestHalt_mode s cause
  obtain ⟨-, hpacing, -, hreturns, htray, -⟩ := settle_halted (s := requestHalt s cause) (by rw [hmode]; rfl)
  rw [hpacing, hreturns, htray, requestHalt_enters cause h]
  refine ⟨?_, ?_, ?_, ?_⟩
  · rw [changeMode_beltRun]; rfl
  · rw [changeMode_returns]
    simp [stopsTrays, LineMode.isHalt]
  · rw [changeMode_trays]
    simp [trayAtModeChange, stopsTrays]
  · rw [changeMode_trays]
    simp [trayAtModeChange, stopsTrays]

/-- A line that was in HALT already changes no output (R163). -/
theorem halt_stays {s : State} (cause : HaltCause) (h : s.sup.mode.isHalt = true) :
    (settle (requestHalt s cause)).pacing = s.pacing ∧ (settle (requestHalt s cause)).returns = s.returns
      ∧ (settle (requestHalt s cause)).tray = s.tray := by
  obtain ⟨hmode, -⟩ := requestHalt_mode s cause
  obtain ⟨-, hpacing, -, hreturns, htray, -⟩ := settle_halted (s := requestHalt s cause) (by rw [hmode]; rfl)
  rw [hpacing, hreturns, htray, requestHalt_halted cause h]
  simp

/-- The cause, the flags and the frame of a halt, whatever the mode was (R163). -/
theorem halt_settled (s : State) (cause : HaltCause) :
    (settle (requestHalt s cause)).sup.mode = .halt cause
      ∧ (settle (requestHalt s cause)).sup.draining = s.sup.draining
      ∧ (settle (requestHalt s cause)).tunnel = { s.tunnel with list := s.tunnel.list.map haltedRecord }
      ∧ (settle (requestHalt s cause)).registry = s.registry := by
  obtain ⟨hmode, htunnel⟩ := requestHalt_mode s cause
  obtain ⟨-, -, hregistry, -, -, hkept, hdraining, -⟩ :=
    settle_halted (s := requestHalt s cause) (by rw [hmode]; rfl)
  exact ⟨hkept.trans hmode, hdraining.trans (by simp), (by simp [htunnel] : _ = _), hregistry.trans (by simp)⟩

/-- ESTOP is raised by its own halt (R163). -/
theorem halt_estop_raised (s : State) :
    Raised s (settle (requestHalt s .estop)) .estop s.belt.odometer none := by
  have hflagged := raise_raised (flagRecords s (fun _ => true) fun f => { f with halted := true }) .estop none
  have halert : alert (requestHalt s .estop) .estop = alert (haltFlagged s .estop) .estop := by
    cases hhalt : s.sup.mode.isHalt with
    | true => rw [requestHalt_halted .estop hhalt]; rfl
    | false => rw [requestHalt_enters .estop hhalt, alert_changeMode]
  refine raised_settle ?_ (by decide)
  rw [Raised, halert]
  exact hflagged

/-- Settles O15. -/
theorem estopHaltsTheLine : Obligations.EstopHaltsTheLine := by
  intro s hon
  have hexec : exec (.filterTimeReached .es) s = .next (settle (requestHalt (turned s .es) .estop)) := exec_turnsOn hon
  obtain ⟨hmode, hdraining, htunnel, hregistry⟩ := halt_settled (turned s .es) .estop
  refine ⟨_, hexec, by simp, hmode, hdraining, halt_estop_raised (turned s .es), htunnel, ?_, ?_⟩
  · split
    case isTrue hhalt => exact halt_stays (s := turned s .es) .estop hhalt
    case isFalse hmoves => exact halt_entered (s := turned s .es) .estop (Bool.eq_false_iff.mpr hmoves)
  · apply state_ext <;> simp [hregistry]

/-! ## The encoder stall -/

/-- What the expiry of the encoder-stall timer leads to on a line that is not in HALT (R9). -/
theorem encoderExpiry_settled {s : State} (h : s.sup.mode.isHalt = false) :
    Raised s (settle (encoderExpiry s)) .encStall s.belt.odometer none
      ∧ (settle (encoderExpiry s)).sup.mode = .halt .encStall
      ∧ (settle (encoderExpiry s)).tunnel = { s.tunnel with list := s.tunnel.list.map haltedRecord }
      ∧ (settle (encoderExpiry s)).registry = s.registry
      ∧ (settle (encoderExpiry s)).returns =
          { s.returns with returnBelt := false, diverters := Vector.replicate 4 .off }
      ∧ (settle (encoderExpiry s)).tray.north.state = .stoppedLine
      ∧ (settle (encoderExpiry s)).tray.south.state = .stoppedLine := by
  have hraised := raise_raised (atTimer s .expired) .encStall none
  obtain ⟨hmode, -, htunnel, hregistry⟩ := halt_settled (raise (atTimer s .expired) .encStall none) .encStall
  obtain ⟨-, hreturns, hnorth, hsouth⟩ :=
    halt_entered (s := raise (atTimer s .expired) .encStall none) .encStall h
  refine ⟨raised_settle ?_ (by decide), hmode, htunnel, hregistry, hreturns, ?_, ?_⟩
  · rw [Raised, encoderExpiry, alert_requestHalt _ _ (by decide)]
    exact hraised
  · exact congrArg TrayChannel.state hnorth
  · exact congrArg TrayChannel.state hsouth

/-- The outputs of a belt that a halt has stopped (R94). -/
theorem outputsFollow_halted {t : State} {cause : HaltCause} (h : OutputsFollow t) (hmode : t.sup.mode = .halt cause) :
    t.pacing.beltRun = false ∧ t.pacing.valveOpen = false ∧ t.pacing.setPoint = 0 ∧ t.belt.timer = .idle := by
  obtain ⟨hrun, hvalve, hpoint, hencoder, -⟩ := h
  have hstands : t.pacing.beltRun = false := by rw [hrun, hmode]; rfl
  rw [hstands] at hvalve hpoint hencoder
  exact ⟨hstands, hvalve, by simpa using hpoint, by simpa using hencoder⟩

/-- A running encoder-stall timer runs on a belt that runs (R8). -/
theorem outputsFollow_running {s : State} {n : Nat} (h : OutputsFollow s) (htimer : s.belt.timer = .running n) :
    s.sup.mode = .run ∧ s.pacing.stallTimer = .idle := by
  obtain ⟨hrun, -, -, hencoder, hstall⟩ := h
  have hruns : s.pacing.beltRun = true := by
    cases hb : s.pacing.beltRun <;> simp_all
  exact ⟨by simp_all, hstall hruns⟩

theorem encoderLastTenth_of_running {s : State} {n : Nat} (htimer : s.belt.timer = .running n) (hlast : 30 ≤ n + 1) :
    encoderLastTenth s = true := by
  rw [encoderLastTenth, htimer]
  exact decide_eq_true hlast

/-- The deadlines' losses raise RETURN_LOST alone (R143). -/
theorem alert_deadlinesTenth (s : State) {k : AlertKind} (h : k ≠ .returnLost) :
    alert (deadlinesTenth s) k = alert s k := by
  have hfold : ∀ (l : List EnRoute) (t : State), alert (l.foldl loseRack t) k = alert t k := by
    intro l
    induction l with
    | nil => exact fun _ => rfl
    | cons e l ih =>
      intro t
      have hsup : (loseRack t e).sup = (raise t .returnLost e.rack).sup := by simp [loseRack]
      have hlost : alert (loseRack t e) k = alert (raise t .returnLost e.rack) k := by
        unfold alert
        rw [hsup]
      rw [List.foldl_cons, ih, hlost, alert_raise, if_neg h.symm]
  unfold deadlinesTenth
  split
  · exact hfold _ _
  · rfl

/-- The state with every timer counted by one tenth, but for what the stall timer and the encoder-stall timer lead to. -/
def tenthCounted (s : State) : State := deadlinesTenth (congestionStep (countTenth s))

@[simp] theorem tenthCounted_frame (s : State) :
    (tenthCounted s).belt = { s.belt with timer := encoderTenth s.belt.timer }
      ∧ (tenthCounted s).inputs = s.inputs ∧ (tenthCounted s).readers = s.readers
      ∧ (tenthCounted s).stage = s.stage
      ∧ (tenthCounted s).tunnel = { s.tunnel with lamp := lampTenth s.tunnel.lamp }
      ∧ (tenthCounted s).rinse = s.rinse
      ∧ (tenthCounted s).pacing = { s.pacing with stallTimer := stallTenth s.pacing.stallTimer }
      ∧ (tenthCounted s).outbox = s.outbox ∧ (tenthCounted s).returns.stations = s.returns.stations
      ∧ (tenthCounted s).returns.pointers = s.returns.pointers
      ∧ (tenthCounted s).returns.diverters = vectorMap diverterTenth s.returns.diverters
      ∧ (tenthCounted s).returns.returnBelt = s.returns.returnBelt
      ∧ (tenthCounted s).sup.mode = s.sup.mode ∧ (tenthCounted s).link = s.link
      ∧ (tenthCounted s).settings = s.settings ∧ (tenthCounted s).store = s.store
      ∧ (tenthCounted s).freeIndex = s.freeIndex ∧ (tenthCounted s).pending = s.pending := by
  simp [tenthCounted, congestionStep, countTenth]

theorem alert_tenthCounted (s : State) {k : AlertKind} (h : k ≠ .returnLost) :
    alert (tenthCounted s) k = alert s k := alert_deadlinesTenth _ h

/-- Settles O10: both commands lead to the expiry, the second on the counts of its step. -/
theorem encoderStallHaltsTheLine : Obligations.EncoderStallHaltsTheLine := by
  refine ⟨fun s n houtputs htimer hlast => ?_, fun s n houtputs htimer hlast => ?_⟩
  · have hexec : exec .encStall s = .next (settle (encoderExpiry s)) := by
      change execEncStall s = _
      rw [execEncStall, if_pos (encoderLastTenth_of_running htimer hlast)]
    obtain ⟨hrun, -⟩ := outputsFollow_running houtputs htimer
    obtain ⟨hraised, hmode, htunnel, hregistry, hreturns, hnorth, hsouth⟩ :=
      encoderExpiry_settled (s := s) (by rw [hrun]; rfl)
    have hmoves : Moves s (settle (encoderExpiry s)) := (encoderExpiry_moves htimer).trans (settle_moves _)
    obtain ⟨hstands, hvalve, hpoint, hidle⟩ :=
      outputsFollow_halted (hmoves.keep Move.keeps_outputs houtputs) hmode
    refine ⟨_, hexec, hraised, hmode, hstands, hvalve, hpoint, ?_, htunnel, hreturns, hnorth, hsouth, ?_⟩
    · exact belt_ext (by simp) (by simp) (by simp) (by simp) hidle
    · apply state_ext <;> simp [hregistry]
  · obtain ⟨hrun, hidleStall⟩ := outputsFollow_running houtputs htimer
    have hstall : stallLastTenth s = false := by simp [stallLastTenth, hidleStall]
    have hexec : exec .congestionTimerStep s = .next (settle (encoderExpiry (tenthCounted s))) := by
      change execCongestionTimerStep s = _
      simp only [execCongestionTimerStep, hstall, encoderLastTenth_of_running htimer hlast, if_true]
      rfl
    obtain ⟨t, hnext, hmoves⟩ := exec_answers .congestionTimerStep s
    cases hexec.symm.trans hnext
    obtain ⟨hraised, hmode, htunnel, hregistry, hreturns, hnorth, hsouth⟩ :=
      encoderExpiry_settled (s := tenthCounted s) (by simp [tenthCounted, congestionStep, countTenth, hrun, LineMode.isHalt])
    obtain ⟨hstands, hvalve, hpoint, hidle⟩ :=
      outputsFollow_halted (hmoves.keep Move.keeps_outputs houtputs) hmode
    refine ⟨_, hexec, ?_, hmode, hstands, hvalve, hpoint, ?_, ?_, ?_, ?_, hnorth, hsouth, ?_⟩
    · rw [Raised, alert_tenthCounted s (by decide)] at hraised
      rw [Raised]
      simpa using hraised
    · exact belt_ext (by simp) (by simp) (by simp) (by simp) hidle
    · rw [htunnel]; simp
    · rw [htunnel]; simp
    · rw [hreturns]; simp
    · apply state_ext <;> simp

/-! ## TABLE FULL -/

/-- The belt stopped and the line reported held by the EXIT cause, TABLE FULL being active (R91, R94, R98). -/
def heldByExit (s : State) : State :=
  beltOff { reportLineHeld s true with pacing := { s.pacing with exitCause := true } }

theorem tableFullChange_stops {s : State} (hruns : s.pacing.beltRun = true) (hempty : holdSetEmpty s = true) :
    tableFullChange s true = heldByExit s := by
  have hafter : holdSetEmpty { s with pacing := { s.pacing with exitCause := true } } = false := by
    simp [holdSetEmpty]
  have hstops : beltShouldRun { reportLineHeld s true with pacing := { s.pacing with exitCause := true } } = false := by
    simp [beltShouldRun, holdSetEmpty]
  have hchanged : tableFullChange s true
      = recomputeBelt { reportLineHeld s true with pacing := { s.pacing with exitCause := true } } := by
    rw [tableFullChange, holdsChanged, hempty, hafter]
    rfl
  rw [hchanged, recomputeBelt, if_neg (by rw [hstops, hruns]; decide), if_neg (by rw [hstops]; decide)]
  rfl

/-- Settles O14: the hold leaves nothing to settle that was not there before. -/
theorem tableFullStopsTheBelt : Obligations.TableFullStopsTheBelt := by
  intro s houtputs hsettled hnobody hruns hon
  have hempty : holdSetEmpty s = true := by
    have hrun := houtputs.run
    rw [hruns] at hrun
    simp_all
  have halike : SettleAlike s (heldByExit (turned s .tf)) :=
    ⟨⟨rfl, rfl, rfl, rfl, rfl, rfl, rfl, rfl, fun _ => rfl⟩, rfl, fun _ => rfl⟩
  have hsettle : settle (heldByExit (turned s .tf)) = heldByExit (turned s .tf) :=
    settle_settled _ (settled_alike hsettled halike) (nobodyWaits_of_stage hnobody rfl)
  have hexec : exec (.filterTimeReached .tf) s = .next (settle (tableFullChange (turned s .tf) true)) :=
    exec_turnsOn hon
  have hlist : (if s.tunnel.list.isEmpty then s.pacing.stallTimer else loadedStall s)
      = if s.tunnel.list = [] then s.pacing.stallTimer else .counting ((par s .stall * 10 : Nat) : Int) := by
    cases s.tunnel.list <;> rfl
  rw [hexec, tableFullChange_stops (s := turned s .tf) hruns hempty, hsettle, ← hlist]
  rfl

end Sys2Proof.Proofs
end

section
/-! PROOFS. The approach eye and the entry eye (sections 3.2, 3.5 and 3.6). -/

namespace Sys2Proof.Proofs

open Sys2Proof.Machine Sys2Proof.Laws

/-! ## A settled line with another stage -/

theorem decided_of_nobodyWaits {s : State} (h : nobodyWaits s = true) : Decided s := by
  intro r o hstage hpasses
  simp [nobodyWaits, hstage, hpasses] at h

/-- A settled line stays settled where somebody who can pass no longer waits and the line holds what it held. -/
theorem settled_of_line {s t : State} (hs : Settled s) (hnobody : nobodyWaits t = true)
    (hempty : lineEmpty t = lineEmpty s) (hmode : t.sup.mode = s.sup.mode)
    (hdraining : t.sup.draining = s.sup.draining) (hrunOn : t.sup.runOn = s.sup.runOn)
    (hheld : t.sup.lineHeld = s.sup.lineHeld) (hsettings : t.settings = s.settings) : Settled t := by
  obtain ⟨-, hcount, hdrain, hparked⟩ := hs
  refine ⟨decided_of_nobodyWaits hnobody, ?_, ?_, ?_⟩
  · rw [hempty, hrunOn]; exact hcount
  · rw [drainEnds, hmode, hdraining, hempty]; exact hdrain
  · rw [runOnEnds, hmode, hempty, hdraining, hheld, par, hsettings, hrunOn]; exact hparked

/-- Where nobody waits any longer and the line holds what it held, a settled line has nothing to settle. -/
theorem settle_of_line {s t : State} (hs : Settled s) (hnobody : nobodyWaits t = true)
    (hempty : lineEmpty t = lineEmpty s) (hmode : t.sup.mode = s.sup.mode)
    (hdraining : t.sup.draining = s.sup.draining) (hrunOn : t.sup.runOn = s.sup.runOn)
    (hheld : t.sup.lineHeld = s.sup.lineHeld) (hsettings : t.settings = s.settings) : settle t = t :=
  settle_settled t (settled_of_line hs hnobody hempty hmode hdraining hrunOn hheld hsettings) hnobody

/-- The line holds what its tunnel block and its pending admission hold (R161). -/
theorem lineEmpty_of_same {s t : State} (htunnel : t.tunnel = s.tunnel) (hpending : t.stage.pending? = s.stage.pending?) :
    lineEmpty t = lineEmpty s := by
  rw [lineEmpty, htunnel, hpending, lineEmpty]

/-! ## The approach eye -/

theorem startRead_idle {s : State} {r : Reader} (h : (reader s r).attempt = none) :
    startRead s r = setReader s r { reader s r with attempt := some 1 } := by
  simp [startRead, h]

/-- What leaves the stop: the rack's row, and the en-route entries that have come to carry it (R42, R118). -/
theorem leaveStop_eq (s : State) (rack : Option Rack) :
    leaveStop s rack = { s with
      registry := (leaveStop s rack).registry
      returns := { s.returns with enRoute := (leaveStop s rack).returns.enRoute } } := by
  cases rack with
  | none => rfl
  | some n =>
    simp only [leaveStop]
    split
    · rw [show setPlace (removeEnRoute s n) n .unseen = setPlaceOf (removeEnRoute s n) (some n) .unseen from rfl,
        setPlaceOf_eq]
      rfl
    · rfl

theorem leaveStop_onlyPlaced (s : State) (rack : Option Rack) : OnlyPlaced s (leaveStop s rack) rack .unseen := by
  intro m
  cases rack with
  | none => simp [leaveStop]
  | some n =>
    simp only [leaveStop]
    by_cases hnm : n = m
    · subst hnm
      cases hrow : row s n <;> simp [hrow]
    · split <;> simp [hnm]

theorem leaveStop_enRoute (s : State) (n : Rack) :
    (leaveStop s (some n)).returns.enRoute =
      if row s n = none then s.returns.enRoute else s.returns.enRoute.filter fun e => e.rack != some n := by
  cases hrow : row s n <;> simp [leaveStop, hrow, removeEnRoute]

/-- Settles O18: each change of the eye moves the stage on, and leaves nothing to settle. -/
theorem approachEyeOpensAndEndsTheStage : Obligations.ApproachEyeOpensAndEndsTheStage := by
  refine ⟨fun s hsettled hstage hidle hon => ?_, fun s hsettled hstage hoff => ?_,
    fun s why o hsettled hstage hoff => ?_⟩
  · have hexec : exec (.filterTimeReached .ap) s
        = .next (settle (approachBlocked (startRead (turned s .ap) .entry))) := exec_turnsOn hon
    have hidle' : (reader (turned s .ap) .entry).attempt = none := hidle
    have hopens : approachBlocked (startRead (turned s .ap) .entry) =
        { s with
          inputs := inputsTurned s .ap
          stage := .reading
          readers := { s.readers with entry := { s.readers.entry with attempt := some 1 } } } := by
      rw [startRead_idle hidle']
      simp only [approachBlocked, setReader_frame, turned_frame, hstage]
      rfl
    refine ⟨?_, rfl, rfl⟩
    rw [hexec, hopens]
    exact congrArg _ (settle_of_line hsettled rfl (lineEmpty_of_same rfl (by rw [hstage]; rfl)) rfl rfl rfl rfl rfl)
  · have hexec : exec (.filterTimeReached .ap) s
        = .next (settle (approachClear (abandonRead (turned s .ap) .entry))) := exec_turnsOff hoff
    have hends : approachClear (abandonRead (turned s .ap) .entry) =
        { s with
          inputs := inputsTurned s .ap
          stage := .empty
          readers := { s.readers with entry := { s.readers.entry with attempt := none } } } := by
      simp only [approachClear, abandonRead_frame, turned_frame, hstage]
      rfl
    rw [hexec, hends]
    exact congrArg _ (settle_of_line hsettled rfl (lineEmpty_of_same rfl (by rw [hstage]; rfl)) rfl rfl rfl rfl rfl)
  · have hexec : exec (.filterTimeReached .ap) s
        = .next (settle (approachClear (abandonRead (turned s .ap) .entry))) := exec_turnsOff hoff
    have hends : approachClear (abandonRead (turned s .ap) .entry) =
        leaveStop (setStage (abandonRead (turned s .ap) .entry) .empty) o.rack? := by
      simp only [approachClear, abandonRead_frame, turned_frame, hstage]
    have hsettle : settle (leaveStop (setStage (abandonRead (turned s .ap) .entry) .empty) o.rack?) =
        leaveStop (setStage (abandonRead (turned s .ap) .entry) .empty) o.rack? := by
      rw [leaveStop_eq]
      exact settle_of_line hsettled rfl (lineEmpty_of_same rfl (by rw [hstage]; rfl)) rfl rfl rfl
        rfl rfl
    have hrack : (match o with | .read n => some n | .unread => none) = o.rack? := by cases o <;> rfl
    refine ⟨_, hexec, ?_⟩
    rw [hends, hsettle]
    refine ⟨?_, ?_, leaveStop_eq (setStage (abandonRead (turned s .ap) .entry) .empty) o.rack?⟩
    · cases o <;> exact leaveStop_onlyPlaced (setStage (abandonRead (turned s .ap) .entry) .empty) _
    · cases o with
      | unread => rfl
      | read n => exact leaveStop_enRoute (setStage (abandonRead (turned s .ap) .entry) .empty) n

/-! ## The entry eye -/

/-- The end of a pending admission with the approach eye clear (R38, R39). -/
theorem resumeApproach_clear {s : State} (held : Option ReadOutcome) (h : isActive s .ap = false) :
    resumeApproach s held = setStage s .empty := if_neg (by rw [h]; decide)

/-- Settles O19. -/
theorem entryEyeTakesThePendingAdmission : Obligations.EntryEyeTakesThePendingAdmission := by
  intro s p n held hstage hclear hon
  have hexec : exec (.filterTimeReached .en) s = .next (settle (entryEyeBlocked (turned s .en))) := exec_turnsOn hon
  let r := newTunnelRecord (turned s .en) p.rack p.cls { anon := p.rack.isNone, rewash := p.rewash }
  have henters : entryEyeBlocked (turned s .en) =
      setStage (setPlaceOf (setStage (appendTunnelRecord (turned s .en) r) .reading) p.rack .inTunnel) .empty := by
    simp only [entryEyeBlocked, turned_frame, hstage]
    refine resumeApproach_clear held ?_
    have hsame : isActive (setPlaceOf (setStage (appendTunnelRecord (turned s .en) r) .reading) p.rack .inTunnel) .ap
        = isActive (turned s .en) .ap := by simp [isActive, channel]
    rw [hsame, isActive_turned, if_neg (by decide), hclear]
  have hoccupied : lineEmpty (entryEyeBlocked (turned s .en)) = false := by
    rw [henters]
    simp [lineEmpty, appendTunnelRecord]
  have hsettle := settle_occupied (by rw [henters]; rfl) hoccupied
  refine ⟨_, hexec, ?_⟩
  rw [hsettle, henters, setPlaceOf_eq]
  refine ⟨rfl, rfl, rfl, ?_, rfl⟩
  exact setPlaceOf_onlyPlaced (setStage (appendTunnelRecord (turned s .en) r) .reading) p.rack .inTunnel

/-- A raise that carries the untracked mark leaves its kind marked (R41, R166). -/
theorem raiseMarked_untracked (s : State) (k : AlertKind) :
    ∃ e, alert (raiseMarked s k none true) k = some e ∧ e.untracked = true ∧ e.lastRack = none := by
  refine ⟨latchedBy s.belt.odometer none true (alert s k), by rw [alert_raiseMarked, if_pos rfl], ?_, ?_⟩ <;>
    cases alert s k <;> simp [latchedBy]

/-- Settles O20: the entry that is tracked leaves an occupied line; the other changes no record. -/
theorem forcedEntriesAreTrackedWhileThereIsRoom : Obligations.ForcedEntriesAreTrackedWhileThereIsRoom := by
  intro s hpending hnobody hon
  have hexec : exec (.filterTimeReached .en) s = .next (settle (forcedEntry (turned s .en))) := by
    have hforced : entryEyeBlocked (turned s .en) = forcedEntry (turned s .en) := by
      cases hstage : s.stage <;> simp_all [entryEyeBlocked, Stage.pending?]
    rw [← hforced]
    exact exec_turnsOn hon
  obtain ⟨hstage, hregistry, hreturns, -⟩ :=
    settle_quiet (s := forcedEntry (turned s .en)) (nobodyWaits_of_stage hnobody (by simp))
  refine ⟨_, hexec, hstage.trans (by simp), hregistry.trans (by simp), by simp, ?_, ?_⟩
  · split
    case isTrue hroom =>
      have htracked : forcedEntry (turned s .en) =
          raise (appendTunnelRecord (turned s .en)
            (newTunnelRecord (turned s .en) none none { anon := true, forced := true })) .entryForced none :=
        if_pos hroom
      refine ⟨?_, raised_settle ?_ (by decide)⟩
      · have htunnel : (settle (forcedEntry (turned s .en))).tunnel = (forcedEntry (turned s .en)).tunnel := by simp
        rw [htunnel, htracked]
        rfl
      · rw [htracked]
        exact raise_raised (appendTunnelRecord (turned s .en) _) .entryForced none
    case isFalse hnoRoom =>
      have huntracked : forcedEntry (turned s .en) = raiseMarked (turned s .en) .entryForced none true :=
        if_neg hnoRoom
      refine ⟨?_, ?_⟩
      · simp [huntracked]
      · rw [alert_settle (by decide), huntracked]
        exact raiseMarked_untracked _ _
  · apply state_ext
    case returns => exact hreturns.trans (by simp)
    all_goals simp [hstage, hregistry]

end Sys2Proof.Proofs
end

section
/-! PROOFS. The approach read (sections 3.2 to 3.4): a rack is refused, held or admitted. -/

namespace Sys2Proof.Proofs

open Sys2Proof.Machine Sys2Proof.Laws

/-! ## The end of a read -/

/-- The tag of a rack that answers the attempt in progress ends the read with its number (R22, R23). -/
theorem exec_readerAnswer_tag {s : State} {r : Reader} {a : Nat} (n : Rack) (hattempt : (reader s r).attempt = some a)
    (ha : a ≤ 3) :
    exec (.readerAnswer r (digitChar a :: tagText n)) s
      = .next (settle (deliverOutcome (abandonRead s r) r (.read n))) := by
  have hvalue : digitValue? (digitChar a) = some a := by
    rw [digitValue_digitChar, Nat.mod_eq_of_lt (by omega)]
  change execReaderAnswer r (digitChar a :: tagText n) s = _
  simp only [execReaderAnswer, hattempt, hvalue, if_true, validAnswer_tagText]
  rfl

/-- The third failed attempt ends the read with UNREAD (R25). -/
theorem exec_attemptTimeout_third {s : State} {r : Reader} (hattempt : (reader s r).attempt = some 3) :
    exec (.attemptTimeout r) s = .next (settle (deliverOutcome
      (setReader s r { attempt := none, failures := min 65535 ((reader s r).failures + 1) }) r .unread)) := by
  change execAttemptTimeout r s = _
  simp only [execAttemptTimeout, hattempt]
  rfl

theorem modeAdmits_iff (s : State) :
    modeAdmits s = true ↔ (s.sup.mode = .run ∨ s.sup.mode = .parked) ∧ s.sup.draining = false := by
  simp [modeAdmits]

/-! ## The reasons of a rack that is read (R33) -/

theorem waitReason_unread {s : State} (hadmits : modeAdmits s = true) (hauto : par s .admitUnread = 0) :
    waitReason s .unread = some .unread := by
  simp [waitReason, hadmits, hauto]

theorem waitReason_retired {s : State} {n : Rack} {w : Row} (hadmits : modeAdmits s = true) (hrow : row s n = some w)
    (hretired : w.retired = true) : waitReason s (.read n) = some .retired := by
  simp [waitReason, hadmits, hrow, hretired]

theorem waitReason_unenrolled {s : State} {n : Rack} (hadmits : modeAdmits s = true) (hrow : row s n = none)
    (hauto : par s .autoEnrol = 0) : waitReason s (.read n) = some .unenrolled := by
  simp [waitReason, hadmits, hrow, hauto]

theorem waitReason_room {s : State} {n : Rack} (hadmits : modeAdmits s = true)
    (hrow : ∀ w, row s n = some w → w.retired = false) (hvacant : row s n = none → par s .autoEnrol ≠ 0) :
    waitReason s (.read n) = roomReason s := by
  cases h : row s n with
  | none => simp [waitReason, hadmits, h, hvacant h]
  | some w => simp [waitReason, hadmits, h, hrow w h]

theorem roomReason_none {s : State} (hlist : s.tunnel.list.length < 16) (hroom : reservation s < 96)
    (hspaced : ∀ r ∈ s.tunnel.list.getLast?, par s .spacing ≤ travel s r.entry) : roomReason s = none := by
  rw [roomReason, if_neg (by simpa [Config.tunnelLimit] using hlist), if_neg (by simpa [Config.outboxLimit] using hroom)]
  cases htail : s.tunnel.list.getLast? with
  | none => rfl
  | some r => exact if_neg (hspaced r htail).not_gt

/-- A vacant row that the decision does not enrol, and an enrolled one, are left as they are (R34). -/
theorem autoEnrol_same {s : State} {n : Rack} (h : row s n = none → par s .autoEnrol = 0) :
    autoEnrol s (.read n) = s := by
  simp only [autoEnrol]
  split
  case isTrue hvacant =>
    simp only [Bool.and_eq_true, Option.isNone_iff_eq_none, bne_iff_ne] at hvacant
    obtain ⟨⟨-, hnone⟩, hauto⟩ := hvacant
    exact absurd (h hnone) hauto
  case isFalse => rfl

theorem autoEnrol_vacant {s : State} {n : Rack} (hadmits : modeAdmits s = true) (hrow : row s n = none)
    (hauto : par s .autoEnrol ≠ 0) :
    autoEnrol s (.read n) = removeEnRoute (setRow s n (some (newRow s.settings.autoClass .queued))) n := by
  simp [autoEnrol, hadmits, hrow, hauto]

/-! ## The claim (R32) -/

theorem claimAtApproach_vacant {s : State} {n : Rack} (h : row s n = none) :
    claimAtApproach s n = removeEnRoute s n := by
  simp [claimAtApproach, placeOf, h]

/-- A rack that no collection has but the en-route list is only placed QUEUED (R32). -/
theorem claimAtApproach_free {s : State} {n : Rack} {w : Row} (h : row s n = some w) (htunnel : w.place ≠ .inTunnel)
    (hexit : w.place ≠ .atExit) (hreturn : w.place ≠ .onReturn) :
    claimAtApproach s n = setPlace s n .queued := by
  unfold claimAtApproach
  cases hp : w.place <;> simp_all [placeOf]

theorem claimAtApproach_onReturn {s : State} {n : Rack} {w : Row} (h : row s n = some w) (hreturn : w.place = .onReturn) :
    claimAtApproach s n = setPlace (removeEnRoute s n) n .queued := by
  simp [claimAtApproach, placeOf, h, hreturn]

/-! ## Refusals -/

/-- Settles O35. -/
theorem attemptTimeoutFailsTheAttempt : Obligations.AttemptTimeoutFailsTheAttempt := by
  refine ⟨fun r s a hattempt hlast => ?_, fun s hsettled hattempt hstage hmode hdraining hauto => ?_⟩
  · obtain ⟨hreader, hothers, hframe⟩ :=
      setReader_changes s r { attempt := some (a + 1), failures := min 65535 ((reader s r).failures + 1) }
    refine ⟨failAttempt s r a, ?_, ?_⟩
    · change execAttemptTimeout r s = _
      simp only [execAttemptTimeout, hattempt]
    · rw [failAttempt_next hlast]
      exact ⟨by rw [hreader]; rfl, hreader, hothers, hframe⟩
  · let t := setReader s .entry { attempt := none, failures := min 65535 ((reader s .entry).failures + 1) }
    have hadmits : modeAdmits t = true := (modeAdmits_iff t).mpr ⟨hmode, hdraining⟩
    have houtcome : deliverOutcome t .entry .unread = decideAdmission t .unread := by
      simp only [deliverOutcome, entryOutcome, t, setReader_frame, hstage]
      rfl
    have hwaits : decideAdmission t .unread = setStage t (.waiting .unread .unread) := by
      simp only [decideAdmission, waitReason_unread hadmits hauto]
      rfl
    have hexec : exec (.attemptTimeout .entry) s = .next (settle (deliverOutcome t .entry .unread)) :=
      exec_attemptTimeout_third hattempt
    rw [hexec, houtcome, hwaits]
    exact congrArg _ (settle_of_line hsettled rfl (lineEmpty_of_same rfl (by rw [hstage]; rfl)) rfl rfl rfl rfl rfl)

/-- A refused rack waits for a permanent reason, which an event leaves as it is (R34, R35). -/
theorem settle_refused {s t : State} {n : Rack} {r : WaitReason} (hsettled : Settled s) (hstage : s.stage = .reading)
    (hpermanent : r.permanent = true) (htunnel : t.tunnel = s.tunnel) (hsup : t.sup = s.sup)
    (hsettings : t.settings = s.settings) :
    settle (raise (setStage t (.waiting r (.read n))) .entryRefused (some n))
      = raise (setStage t (.waiting r (.read n))) .entryRefused (some n) := by
  refine settle_of_line hsettled hpermanent (lineEmpty_of_same htunnel ?_) ?_ ?_ ?_ ?_ hsettings
  · rw [hstage]; rfl
  all_goals simp [hsup]

theorem decideAdmission_refused {s : State} {n : Rack} {r : WaitReason} (h : waitReason s (.read n) = some r)
    (hr : r = .retired ∨ r = .unenrolled) (henrol : autoEnrol s (.read n) = s) :
    decideAdmission s (.read n) = raise (setStage s (.waiting r (.read n))) .entryRefused (some n) := by
  simp only [decideAdmission, h, henrol, if_pos hr]
  rfl

/-- An approach read in READING is decided once the other collections have given the rack up (R31, R32). -/
theorem exec_approachRead {s : State} {a : Nat} (n : Rack) (hattempt : s.readers.entry.attempt = some a) (ha : a ≤ 3)
    (hstage : s.stage = .reading) :
    exec (.readerAnswer .entry (digitChar a :: tagText n)) s
      = .next (settle (decideAdmission (claimAtApproach (abandonRead s .entry) n) (.read n))) := by
  have houtcome : deliverOutcome (abandonRead s .entry) .entry (.read n)
      = decideAdmission (claimAtApproach (abandonRead s .entry) n) (.read n) := by
    simp only [deliverOutcome, entryOutcome, abandonRead_frame, hstage]
    rfl
  rw [exec_readerAnswer_tag (r := .entry) n hattempt ha, houtcome]

/-- Settles O22. -/
theorem retiredAndUnenrolledRacksAreRefused : Obligations.RetiredAndUnenrolledRacksAreRefused := by
  intro s a n _ ha hattempt hstage hsettled hmode hdraining
  have hexec := exec_approachRead n hattempt ha hstage
  refine ⟨fun w hrow hretired htunnel hexit hreturn => ?_, fun hrow hauto => ?_⟩
  · let t := setPlace (abandonRead s .entry) n .queued
    have hclaim : claimAtApproach (abandonRead s .entry) n = t := claimAtApproach_free hrow htunnel hexit hreturn
    have hadmits : modeAdmits t = true := (modeAdmits_iff t).mpr (by simpa [t] using ⟨hmode, hdraining⟩)
    have hqueued : row t n = some { w with place := .queued } := by
      have hrow' : row (abandonRead s .entry) n = some w := hrow
      simp [t, hrow']
    have hdecide := decideAdmission_refused (waitReason_retired hadmits hqueued hretired) (.inl rfl)
      (autoEnrol_same fun hnone => by rw [hqueued] at hnone; cases hnone)
    have hreaders : t.readers = (abandonRead s .entry).readers := by simp [t]
    have hsettle := settle_refused (n := n) (t := t) hsettled hstage (r := .retired) rfl (by simp [t]) (by simp [t])
      (by simp [t])
    refine ⟨_, hexec, ?_⟩
    rw [hclaim, hdecide, hsettle]
    have hplaced := setPlaceOf_onlyPlaced (abandonRead s .entry) (some n) .queued
    refine ⟨rfl, hplaced, ?_, ?_⟩
    · have hraised := raise_raised (setStage t (.waiting .retired (.read n))) .entryRefused (some n)
      simpa [Raised, alert, t] using hraised
    · apply state_ext
      case readers => exact hreaders
      case sup => apply sup_ext <;> simp [t]
      all_goals simp [t]
  · let t := removeEnRoute (abandonRead s .entry) n
    have hclaim : claimAtApproach (abandonRead s .entry) n = t := claimAtApproach_vacant hrow
    have hadmits : modeAdmits t = true := (modeAdmits_iff t).mpr ⟨hmode, hdraining⟩
    have hdecide := decideAdmission_refused (waitReason_unenrolled (s := t) hadmits hrow hauto) (.inr rfl)
      (autoEnrol_same fun _ => hauto)
    have hsettle := settle_refused (n := n) (t := t) hsettled hstage (r := .unenrolled) rfl rfl rfl rfl
    refine ⟨_, hexec, ?_⟩
    rw [hclaim, hdecide, hsettle]
    exact ⟨rfl, raise_raised (setStage t (.waiting .unenrolled (.read n))) .entryRefused (some n), rfl, rfl⟩

end Sys2Proof.Proofs
end

section
/-! PROOFS. Admission (sections 3.3 and 3.4): the rack at the stop admitted, and a read held while another is pending. -/

namespace Sys2Proof.Proofs

open Sys2Proof.Machine Sys2Proof.Laws

/-! ## Admission -/

/-- The rack admitted, the line not yet woken (R36). -/
def atAdmission (s : State) (o : ReadOutcome) : State :=
  let t := setPlaceOf (removeEnRouteOf (setStage s (.admitting (pendingOf s o) 0 none)) o.rack?) o.rack? .admitting
  { t with sup := { t.sup with runOn := 0 } }

theorem admitRack_eq (s : State) (o : ReadOutcome) : admitRack s o = wake (atAdmission s o) := rfl

theorem setPlaceOf_registry {s t : State} (rack : Option Rack) (p : Place) (h : t.registry = s.registry) :
    (setPlaceOf t rack p).registry = (setPlaceOf s rack p).registry := by
  cases rack with
  | none => exact h
  | some n =>
    have hrow : row t n = row s n := by rw [row, h]; rfl
    simp only [setPlaceOf, setPlace, hrow]
    cases row s n with
    | none => exact h
    | some w => simp only [setRow, h]

/-- An admission moves the stage, the rack's row, the en-route list and the run-on count (R36). -/
theorem atAdmission_eq (s : State) (n : Rack) :
    atAdmission s (.read n) = { s with
      stage := .admitting (pendingOf s (.read n)) 0 none
      registry := (setPlaceOf s (some n) .admitting).registry
      returns := { s.returns with enRoute := s.returns.enRoute.filter fun e => e.rack != some n }
      sup := { s.sup with runOn := 0 } } := by
  simp only [atAdmission, ReadOutcome.rack?, removeEnRouteOf]
  rw [setPlaceOf_eq, setPlaceOf_registry (s := s) (some n) .admitting (by rfl)]
  rfl

theorem wake_parked {s : State} (h : s.sup.mode = .parked) : wake s = changeMode s .run := if_pos h

theorem wake_other {s : State} (h : s.sup.mode ≠ .parked) : wake s = s := if_neg h

/-- Once the rack is admitted the line is occupied, and settling the event changes nothing more. -/
theorem settle_admitRack (s : State) (n : Rack) : settle (admitRack s (.read n)) = admitRack s (.read n) := by
  obtain ⟨hstage, hrunOn, -⟩ := admit_stage s (.read n)
  have hoccupied : lineEmpty (admitRack s (.read n)) = false := by
    simp [lineEmpty, hstage, Stage.pending?]
  rw [settle_occupied (nobodyWaits_of_admitting hstage) hoccupied, ← hrunOn]

/-- An admission on a RUN line wakes nothing (R160). -/
theorem admitRack_running {s : State} (o : ReadOutcome) (hmode : s.sup.mode = .run) :
    admitRack s o = atAdmission s o := by
  rw [admitRack_eq, wake_other]
  simp [atAdmission, hmode]

/-- An admission on a PARKED line brings it to RUN (R160). -/
theorem admitRack_parked {s : State} (o : ReadOutcome) (hmode : s.sup.mode = .parked) :
    admitRack s o = changeMode (atAdmission s o) .run := by
  rw [admitRack_eq, wake_parked]
  simp [atAdmission, hmode]

/-- What an admission writes, on a RUN and on a PARKED line (R36, R160). -/
structure Admitted (s t : State) (n : Rack) : Prop where
  readers : t.readers = s.readers
  sup     : t.sup = { s.sup with mode := .run, runOn := 0 }
  enRoute : t.returns.enRoute = s.returns.enRoute.filter fun e => e.rack != some n
  running : s.sup.mode = .run → t.pacing = s.pacing ∧ t.belt = s.belt ∧ t.tray = s.tray
    ∧ t.returns = { s.returns with enRoute := t.returns.enRoute }
  parked  : s.sup.mode = .parked → t.pacing.beltRun = holdSetEmpty s
  frame   : t = { s with
    belt := t.belt, readers := t.readers, stage := t.stage, pacing := t.pacing, registry := t.registry
    tray := t.tray, sup := t.sup
    returns := { s.returns with enRoute := t.returns.enRoute, returnBelt := t.returns.returnBelt } }

theorem admitRack_admitted {s : State} (n : Rack) (hmode : s.sup.mode = .run ∨ s.sup.mode = .parked) :
    Admitted s (admitRack s (.read n)) n := by
  rcases hmode with hrun | hparked
  · rw [admitRack_running _ hrun, atAdmission_eq]
    exact
      { readers := rfl, enRoute := rfl, frame := rfl, sup := by rw [← hrun],
        running := fun _ => ⟨rfl, rfl, rfl, rfl⟩, parked := fun h => by rw [hrun] at h; cases h }
  · have hstopped : stopsTrays (atAdmission s (.read n)).sup.mode = false := by
      rw [atAdmission_eq]; simp [hparked, stopsTrays]
    have hbelt : (changeMode (atAdmission s (.read n)) .run).pacing.beltRun = holdSetEmpty s := by
      rw [changeMode_beltRun, atAdmission_eq]; rfl
    rw [admitRack_parked _ hparked]
    refine { parked := fun _ => hbelt, running := fun h => (by rw [hparked] at h; cases h),
             readers := ?_, sup := ?_, enRoute := ?_, frame := ?_ }
    all_goals
      rw [changeMode_moving hstopped rfl]
      simp only [atAdmission_eq, if_true]

/-- An admission places its rack and no other (R36). -/
theorem row_admitRack (s : State) (n m : Rack) :
    row (admitRack s (.read n)) m
      = if m = n then (row s n).map fun w => { w with place := .admitting } else row s m := by
  have hregistry : (admitRack s (.read n)).registry = (setPlaceOf s (some n) .admitting).registry := by
    rw [admitRack_eq]
    simp [atAdmission_eq]
  rw [row, hregistry]
  refine (setPlaceOf_onlyPlaced s (some n) .admitting m).trans ?_
  by_cases h : m = n
  · rw [h, if_pos rfl, if_pos rfl]
  · rw [if_neg h, if_neg fun heq => h (Option.some.inj heq).symm]

/-! ## The read that is admitted -/

/-- The state in which the rack that is read is admitted: the claim and the enrolment made, which write the registry
and the en-route list alone. -/
structure ClaimedAs (s u : State) (n : Rack) : Prop where
  frame   : u = { s with registry := u.registry, returns := { s.returns with enRoute := u.returns.enRoute } }
  enRoute : u.returns.enRoute.filter (fun e => e.rack != some n) = s.returns.enRoute.filter fun e => e.rack != some n

theorem setPlace_claimed (s : State) (n : Rack) (p : Place) : ClaimedAs s (setPlace s n p) n := by
  have heq := setPlaceOf_eq s (some n) p
  have hreturns : (setPlace s n p).returns = s.returns := by simp
  exact ⟨by rw [hreturns]; exact heq, by rw [hreturns]⟩

theorem removeEnRoute_claimed (s : State) (n : Rack) : ClaimedAs s (removeEnRoute s n) n :=
  ⟨rfl, by simp [removeEnRoute, List.filter_filter]⟩

theorem setRow_claimed (s : State) (n : Rack) (w : Option Row) : ClaimedAs s (setRow s n w) n := ⟨rfl, rfl⟩

theorem ClaimedAs.trans {s t u : State} {n : Rack} (h : ClaimedAs s t n) (h' : ClaimedAs t u n) :
    ClaimedAs s u n := by
  refine ⟨?_, h'.enRoute.trans h.enRoute⟩
  rw [h'.frame, h.frame]

theorem Admitted.of_claimed {s u t : State} {n : Rack} (hclaim : ClaimedAs s u n) (h : Admitted u t n) :
    Admitted s t n := by
  obtain ⟨hframe, henRoute⟩ := hclaim
  obtain ⟨hreaders, hsup, hroute, hrunning, hparked, hrest⟩ := h
  rw [hframe] at hreaders hsup hrunning hparked
  refine ⟨hreaders, hsup, hroute.trans henRoute, hrunning, hparked, ?_⟩
  rw [hframe] at hrest
  exact hrest

/-- The read of an enrolled rack that no reason stops leads to its admission, QUEUED for the decision (R32, R36). -/
theorem approachRead_enrolled {s : State} {n : Rack} {w : Row} (hrow : row s n = some w) (htunnel : w.place ≠ .inTunnel)
    (hexit : w.place ≠ .atExit) :
    ClaimedAs s (claimAtApproach s n) n
      ∧ ∀ m, row (claimAtApproach s n) m = if m = n then some { w with place := .queued } else row s m := by
  by_cases hreturn : w.place = .onReturn
  · rw [claimAtApproach_onReturn hrow hreturn]
    refine ⟨(removeEnRoute_claimed s n).trans (setPlace_claimed _ n _), fun m => ?_⟩
    by_cases hm : m = n
    · subst hm; simp [hrow]
    · simp [hm, Ne.symm hm]
  · rw [claimAtApproach_free hrow htunnel hexit hreturn]
    refine ⟨setPlace_claimed s n _, fun m => ?_⟩
    by_cases hm : m = n
    · subst hm; simp [hrow]
    · simp [hm, Ne.symm hm]

/-- The decision on the state that the claim leaves admits the rack (R33, R36). -/
theorem settle_decide_admits {s u : State} {n : Rack} (hclaim : ClaimedAs s u n)
    (hmode : s.sup.mode = .run ∨ s.sup.mode = .parked) (hdraining : s.sup.draining = false)
    (hlist : s.tunnel.list.length < 16) (hroom : reservation s < 96)
    (hspaced : ∀ r ∈ s.tunnel.list.getLast?, par s .spacing ≤ travel s r.entry)
    (hrow : ∀ w, row u n = some w → w.retired = false) (hvacant : row u n = none → par s .autoEnrol ≠ 0) :
    settle (decideAdmission u (.read n)) = admitRack (autoEnrol u (.read n)) (.read n) := by
  have hadmits : modeAdmits u = true := by
    rw [hclaim.frame]
    exact (modeAdmits_iff _).mpr ⟨hmode, hdraining⟩
  have hreason : roomReason u = none := by
    rw [hclaim.frame]
    exact roomReason_none hlist hroom hspaced
  have hauto : row u n = none → par u .autoEnrol ≠ 0 := by
    rw [hclaim.frame] at hvacant ⊢
    exact hvacant
  have hnone : waitReason u (.read n) = none := (waitReason_room hadmits hrow hauto).trans hreason
  rw [decideAdmission, hnone]
  exact settle_admitRack _ n

theorem autoEnrol_claimed {s : State} {n : Rack} (hadmits : modeAdmits s = true) (hrow : row s n = none)
    (hauto : par s .autoEnrol ≠ 0) :
    ClaimedAs s (autoEnrol s (.read n)) n
      ∧ ∀ m, row (autoEnrol s (.read n)) m
          = if m = n then some (newRow s.settings.autoClass .queued) else row s m := by
  rw [autoEnrol_vacant hadmits hrow hauto]
  refine ⟨(setRow_claimed s n _).trans (removeEnRoute_claimed _ n), fun m => ?_⟩
  rw [row_removeEnRoute, row_setRow]
  simp only [eq_comm]

/-! ## The held outcome (R37) -/

theorem heldOutcome_replaces {s : State} {p : Pending} {lapse : Nat} {held : Option ReadOutcome} {n : Rack}
    (h : placeOf s n ≠ some .admitting) :
    heldOutcome s p lapse held (.read n)
      = setStage (dropHeld (claimAtApproach s n) held (some n)) (.admitting p lapse (some (.read n))) := by
  simp only [heldOutcome, if_neg h]

/-- A read that becomes the held outcome places its enrolled rack QUEUED, and takes a vacant one off the en-route
list (R32). -/
theorem claimAtApproach_held {s : State} {n : Rack} (hrow : ∀ w, row s n = some w →
      w.place ≠ .inTunnel ∧ w.place ≠ .atExit ∧ w.place ≠ .onReturn ∧ w.place ≠ .admitting) :
    claimAtApproach s n = { s with
        registry := (claimAtApproach s n).registry
        returns := { s.returns with enRoute := (claimAtApproach s n).returns.enRoute } }
      ∧ (claimAtApproach s n).returns.enRoute
          = s.returns.enRoute.filter (fun e => !(e.rack == some n && (row s n).isNone))
      ∧ ∀ m, row (claimAtApproach s n) m
          = if m = n then (row s m).map fun w => { w with place := .queued } else row s m := by
  cases h : row s n with
  | none =>
    rw [claimAtApproach_vacant h]
    refine ⟨rfl, List.filter_congr fun e _ => by simp [bne], fun m => ?_⟩
    by_cases hm : m = n
    · subst hm; simp [h]
    · simp [hm]
  | some w =>
    obtain ⟨htunnel, hexit, hreturn, -⟩ := hrow w h
    rw [claimAtApproach_free h htunnel hexit hreturn]
    have hreturns : (setPlace s n .queued).returns = s.returns := by simp
    refine ⟨by rw [hreturns]; exact setPlaceOf_eq s (some n) .queued, ?_, fun m => ?_⟩
    · rw [hreturns]
      exact (List.filter_eq_self.mpr fun e _ => by simp).symm
    · rw [row_setPlace]
      simp only [eq_comm]

theorem dropHeld_kept {s : State} {held : Option ReadOutcome} {n : Rack} (h : ∀ m, held = some (.read m) → m = n) :
    dropHeld s held (some n) = s := by
  cases held with
  | none => rfl
  | some o =>
    cases o with
    | unread => rfl
    | read m => exact if_pos (by rw [h m rfl])

theorem dropHeld_replaced (s : State) {m n : Rack} (h : m ≠ n) :
    dropHeld s (some (.read m)) (some n) = leaveStop s (some m) :=
  if_neg fun heq => h (Option.some.inj heq).symm

/-- The held outcome that a read of another rack replaces leaves the stop (R37; log entry 21). -/
theorem dropHeld_replaces (s : State) (held : Option ReadOutcome) (n : Rack) :
    (∀ m, row (dropHeld s held (some n)) m
        = if m ≠ n ∧ held = some (.read m) then (row s m).map fun w => { w with place := .unseen } else row s m)
      ∧ (dropHeld s held (some n)).returns.enRoute = s.returns.enRoute.filter (fun e =>
          !(e.rack.any fun m => m != n && held == some (.read m) && (row s m).isSome))
      ∧ dropHeld s held (some n) = { s with
          registry := (dropHeld s held (some n)).registry
          returns := { s.returns with enRoute := (dropHeld s held (some n)).returns.enRoute } } := by
  by_cases hkept : ∀ m, held = some (.read m) → m = n
  · rw [dropHeld_kept hkept]
    refine ⟨fun m => (if_neg fun h => h.1 (hkept m h.2)).symm, ?_, rfl⟩
    refine (List.filter_eq_self.mpr fun e _ => ?_).symm
    simp only [Bool.not_eq_true', Option.any_eq_false, Bool.and_eq_false_iff]
    intro m _
    by_cases hm : m = n
    · simp [hm]
    · simp [show held ≠ some (.read m) from fun h => hm (hkept m h)]
  · push Not at hkept
    obtain ⟨k, rfl, hk⟩ := hkept
    rw [dropHeld_replaced s hk]
    refine ⟨fun m => ?_, ?_, leaveStop_eq s (some k)⟩
    · rw [leaveStop_onlyPlaced]
      by_cases hm : k = m
      · subst hm; simp [hk]
      · simp [hm]
    · rw [leaveStop_enRoute]
      cases hrow : row s k with
      | none =>
        refine (if_pos rfl).trans (List.filter_eq_self.mpr fun e _ => ?_).symm
        cases e.rack with
        | none => rfl
        | some m =>
          by_cases hm : m = k
          · subst hm; simp [hrow]
          · simp [Ne.symm hm]
      | some w =>
        refine (if_neg (by simp)).trans (List.filter_congr fun e _ => ?_)
        cases e.rack with
        | none => rfl
        | some m =>
          by_cases hm : m = k
          · subst hm; simp [hrow, hk]
          · have hother : (some (ReadOutcome.read k) == some (ReadOutcome.read m)) = false :=
              beq_eq_false_iff_ne.mpr fun h => hm (ReadOutcome.read.inj (Option.some.inj h)).symm
            have hentry : (some m != some k) = true := by simpa using hm
            rw [hentry, Option.any_some, hother, Bool.and_false, Bool.false_and]
            rfl

theorem pendingOf_row {s : State} {n : Rack} {w : Row} (h : row s n = some w) :
    pendingOf s (.read n) = { rack := some n, cls := some w.cls, rewash := w.rewashDue } := by
  simp [pendingOf, classOf, h]

/-- Settles O21. -/
theorem approachReadAdmits : Obligations.ApproachReadAdmits := by
  refine ⟨fun s a n _ ha hattempt hstage hmode hdraining hlist hroom hspaced hrow hvacant => ?_,
    fun s a n p lapse held _ ha hattempt hstage hrow => ?_⟩
  · let b := abandonRead s .entry
    have hexec := exec_approachRead n hattempt ha hstage
    have hconclude : ∀ u, ClaimedAs b u n → settle (decideAdmission (claimAtApproach b n) (.read n))
        = admitRack u (.read n) → Admitted b (admitRack u (.read n)) n := fun u hu _ => by
      refine (admitRack_admitted n ?_).of_claimed hu
      rw [hu.frame]
      exact hmode
    cases h : row s n with
    | some w =>
      obtain ⟨hretired, htunnel, hexit, -⟩ := hrow w h
      obtain ⟨hclaim, hrows⟩ := approachRead_enrolled (s := b) h htunnel hexit
      have hn := hrows n
      rw [if_pos rfl] at hn
      have henrolled : row (claimAtApproach b n) n ≠ none := by rw [hn]; simp
      have hsettle := settle_decide_admits hclaim hmode hdraining hlist hroom hspaced
        (fun w' h' => by rw [hn] at h'; cases h'; exact hretired) (fun h' => absurd h' henrolled)
      rw [autoEnrol_same (fun h' => absurd h' henrolled)] at hsettle
      obtain ⟨hreaders, hsup, hroute, hrunning, hparked, hframe⟩ := hconclude _ hclaim hsettle
      refine ⟨_, hexec, ?_⟩
      rw [hsettle]
      refine ⟨fun w' h' => ?_, (fun h' => by cases h'), hreaders, hsup, hroute, hrunning, hparked, hframe⟩
      cases h'
      refine ⟨?_, fun m => ?_⟩
      · rw [(admit_stage _ _).1, pendingOf_row hn]
      · rw [row_admitRack, hn, hrows m]
        by_cases hm : m = n
        · subst hm; simp [h]
        · simp [hm, Ne.symm hm]; rfl
    | none =>
      have hclaim : ClaimedAs b (claimAtApproach b n) n := by
        rw [claimAtApproach_vacant (s := b) h]
        exact removeEnRoute_claimed b n
      have hn : row (claimAtApproach b n) n = none := by
        rw [claimAtApproach_vacant (s := b) h]
        exact h
      have hauto : par s .autoEnrol ≠ 0 := by rw [hvacant h]; decide
      have hsettle := settle_decide_admits hclaim hmode hdraining hlist hroom hspaced
        (fun w' h' => by rw [hn] at h'; cases h') (fun _ => hauto)
      have hadmits : modeAdmits (claimAtApproach b n) = true := by
        rw [hclaim.frame]
        exact (modeAdmits_iff _).mpr ⟨hmode, hdraining⟩
      have hpar : par (claimAtApproach b n) .autoEnrol ≠ 0 := by
        rw [hclaim.frame]
        exact hauto
      obtain ⟨henrol, hrows⟩ := autoEnrol_claimed hadmits hn hpar
      obtain ⟨hreaders, hsup, hroute, hrunning, hparked, hframe⟩ := hconclude _ (hclaim.trans henrol) hsettle
      have hnew := hrows n
      rw [if_pos rfl] at hnew
      have hclass : (claimAtApproach b n).settings.autoClass = s.settings.autoClass := by rw [hclaim.frame]; rfl
      refine ⟨_, hexec, ?_⟩
      rw [hsettle]
      refine ⟨(fun w' h' => by cases h'), fun _ => ⟨?_, fun m => ?_⟩, hreaders, hsup, hroute, hrunning, hparked, hframe⟩
      · rw [(admit_stage _ _).1, pendingOf_row hnew, hclass]
        rfl
      · rw [row_admitRack, hnew, hrows m, hclass]
        by_cases hm : m = n
        · rw [if_pos hm, if_pos hm]
          rfl
        · rw [if_neg hm, if_neg hm, if_neg hm, claimAtApproach_vacant (s := b) h]
          rfl
  · let b := abandonRead s .entry
    let c := claimAtApproach b n
    have hplace : placeOf b n ≠ some .admitting := by
      intro h
      obtain ⟨w, hw, hp⟩ := Option.map_eq_some_iff.mp h
      exact (hrow w hw).2.2.2 hp
    have houtcome : deliverOutcome b .entry (.read n)
        = setStage (dropHeld c held (some n)) (.admitting p lapse (some (.read n))) := by
      rw [← heldOutcome_replaces hplace]
      simp only [deliverOutcome, entryOutcome, b, abandonRead_frame, hstage]
    have hsettle : settle (setStage (dropHeld c held (some n)) (.admitting p lapse (some (.read n))))
        = { setStage (dropHeld c held (some n)) (.admitting p lapse (some (.read n))) with
              sup := { (dropHeld c held (some n)).sup with runOn := 0 } } :=
      settle_occupied (nobodyWaits_of_admitting rfl) (by simp [lineEmpty, setStage, Stage.pending?])
    obtain ⟨hdroprows, hdroproute, hdropframe⟩ := dropHeld_replaces c held n
    obtain ⟨hclaimframe, hclaimroute, hclaimrows⟩ := claimAtApproach_held (s := b) (n := n) hrow
    refine ⟨_, exec_readerAnswer_tag (r := .entry) n hattempt ha, ?_⟩
    rw [houtcome, hsettle]
    refine ⟨rfl, fun m => ?_, ?_, ?_⟩
    · refine (hdroprows m).trans ?_
      rw [hclaimrows m]
      by_cases hm : m = n
      · rw [if_pos hm, if_pos hm, if_neg fun h => h.1 hm]
        rfl
      · rw [if_neg hm, if_neg hm]
        simp only [ne_eq, hm, not_false_eq_true, true_and]
        rfl
    · refine hdroproute.trans ?_
      rw [hclaimroute, List.filter_filter]
      refine List.filter_congr fun e _ => ?_
      rw [Bool.and_comm]
      refine congrArg₂ _ rfl (congrArg not ?_)
      cases e.rack with
      | none => rfl
      | some m =>
        by_cases hm : m = n
        · simp [hm]
        · rw [Option.any_some, Option.any_some, hclaimrows m, if_neg hm]
          rfl
    · rw [hdropframe, show c = _ from hclaimframe]
      rfl

end Sys2Proof.Proofs
end

section
/-! PROOFS. How a record leaves (sections 4.3, 4.4 and 8.3): what a filed wash record, a closing as MISSING and the
closing of the check write. -/

namespace Sys2Proof.Proofs

open Sys2Proof.Machine Sys2Proof.Laws

/-! ## The filed record -/

theorem alert_fileRecord (s : State) (w : WashRecord) {k : AlertKind} (hk : k ≠ .outboxHigh) :
    alert (fileRecord s w) k = alert s k := by
  have hcounted : ∀ t : State, alert (updateCounted t w) k = alert t k := fun t => by
    rw [alert, (show (updateCounted t w).sup = t.sup by simp)]
    rfl
  rw [fileRecord, hcounted, alert_appendRecord s w k hk]

/-- The rack that a filed record counts for, placed as its closing asks, has the row that the record gives (R63,
R120). -/
theorem washed_of_filed {s t : State} {w : WashRecord} {v : Verdict} {serial : Nat} {rack : Option Rack}
    {place : Place → Place} (hcounts : countsFor w = rack) (hv : w.verdict = v) (hserial : w.serial = serial)
    (hplaced : ∀ m, row t m = if rack = some m then
        (row (fileRecord s w) m).map fun r => { r with place := place r.place } else row (fileRecord s w) m) :
    OnlyWashed s t rack v serial place := by
  subst hcounts hv hserial
  intro m
  rw [hplaced m, row_fileRecord]
  split
  · rw [Option.map_map]
    rfl
  · rfl

/-! ## Closing as MISSING -/

theorem verdictOf_unvouched {c : Settings} {cls : Option RackClass} {dose wash : Nat} {f : Flags}
    (h : f.unvouched = true) : verdictOf c cls dose wash f = .unknown :=
  (verdictOf_unknown c cls dose wash f).mpr h

/-- What follows the filing of a record that went MISSING (R64). -/
theorem missingFiled_washed {s : State} {w : WashRecord} {rack : Option Rack} (hcounts : countsFor w = rack)
    (hv : w.verdict = .unknown) :
    OnlyWashed s (missingFiled (fileRecord s w) rack) rack .unknown w.serial (fun _ => .lost) :=
  washed_of_filed hcounts hv rfl fun m =>
    setPlaceOf_onlyPlaced (raise (fileRecord s w) .exitMissing rack) rack .lost m

theorem missingFiled_raised (s : State) (w : WashRecord) (rack : Option Rack) :
    Raised s (missingFiled (fileRecord s w) rack) .exitMissing s.belt.odometer rack := by
  have hraised := raise_raised (fileRecord s w) .exitMissing rack
  rw [Raised] at hraised ⊢
  have hsup : alert (missingFiled (fileRecord s w) rack) .exitMissing
      = alert (raise (fileRecord s w) .exitMissing rack) .exitMissing := by
    have hplaced := (setPlaceOf_frame (raise (fileRecord s w) .exitMissing rack) rack .lost)
    simp only [missingFiled, alert, hplaced]
  rw [hsup, hraised, alert_fileRecord s w (by decide), (fileRecord_frame s w).1]

/-! ## Closing the check -/

/-- The rack of a closed check is placed AT_UNLOAD, and a QUEUED one stays so (R65). -/
theorem row_placeUnloaded (s : State) (rack : Option Rack) (m : Rack) :
    row (placeUnloaded s rack) m
      = if rack = some m then (row s m).map fun r => { r with place := unloaded r.place } else row s m := by
  cases rack with
  | none => rfl
  | some n =>
    simp only [placeUnloaded]
    by_cases hqueued : placeOf s n = some .queued
    · rw [if_pos hqueued]
      obtain ⟨w, hw, hp⟩ := Option.map_eq_some_iff.mp hqueued
      by_cases hm : n = m
      · subst hm
        simp [hw, unloaded, ← hp]
      · simp [hm]
    · rw [if_neg hqueued, row_setPlace]
      by_cases hm : n = m
      · subst hm
        rw [if_pos rfl, if_pos rfl]
        refine Option.map_congr fun w hw => ?_
        have hp : w.place ≠ .queued := fun h => hqueued (by rw [placeOf, hw]; exact congrArg some h)
        rw [unloaded, if_neg hp]
      · simp [hm]

/-- The check of a record k closed (R63, R65, R66): the record that leaves, its rack, the slot and the lamp. -/
theorem closeCheck_closes {s : State} {k : ExitRecord} {w : WashRecord} (hslot : s.tunnel.slot = some k)
    (hw : washOfExit s k k.flags (some k.exit) = w) :
    (closeCheck s).outbox = { queue := s.outbox.queue ++ [w], nextSerial := serialAfter s.outbox.nextSerial }
      ∧ (closeCheck s).tunnel
          = { list := s.tunnel.list, slot := none, lamp := if w.verdict = .clean then s.tunnel.lamp else .on 80 }
      ∧ OnlyWashed s (closeCheck s) (countsFor w) w.verdict w.serial unloaded
      ∧ ∀ kind, kind ≠ .outboxHigh → alert (closeCheck s) kind = alert s kind := by
  let u : State := { s with tunnel := { s.tunnel with slot := none } }
  let t := placeUnloaded (fileRecord u w) (countsFor w)
  have hclose : closeCheck s = if w.verdict = .clean then t else lightLamp t := by
    simp only [closeCheck, hslot, hw]
    rfl
  have hrows : ∀ m, row (closeCheck s) m = row t m := fun m => by rw [hclose]; split <;> rfl
  have hsup : (closeCheck s).sup = (fileRecord u w).sup := by rw [hclose]; split <;> simp [t, lightLamp]
  refine ⟨?_, ?_, ?_, fun kind hkind => ?_⟩
  · have houtbox : (closeCheck s).outbox = t.outbox := by rw [hclose]; split <;> rfl
    rw [houtbox]
    simpa [t] using fileRecord_outbox u w
  · rw [hclose]
    split <;> simp [t, lightLamp, u, Config.lampTenths]
  · have hwashed : OnlyWashed u (closeCheck s) (countsFor w) w.verdict w.serial unloaded :=
      washed_of_filed rfl rfl rfl fun m => by rw [hrows]; exact row_placeUnloaded (fileRecord u w) (countsFor w) m
    exact hwashed
  · rw [alert, hsup]
    exact alert_fileRecord u w hkind

end Sys2Proof.Proofs
end

section
/-! PROOFS. The exit eye and the exit check (sections 4.2 to 4.4). -/

namespace Sys2Proof.Proofs

open Sys2Proof.Machine Sys2Proof.Laws

theorem serialAfter_eq (n : Nat) : serialAfter n = if n < 999999 then n + 1 else 1 := rfl

/-- What an event writes that closes the check of the record k as the wash record w (R63, R65, R66). -/
structure ClosesCheck (s t : State) (w : WashRecord) : Prop where
  outbox  : t.outbox = { queue := s.outbox.queue ++ [w], nextSerial := serialAfter s.outbox.nextSerial }
  tunnel  : t.tunnel
    = { list := s.tunnel.list, slot := none, lamp := if w.verdict = .clean then s.tunnel.lamp else .on 80 }
  washed  : OnlyWashed s t (countsFor w) w.verdict w.serial unloaded
  alerts  : ∀ kind, kind ≠ .outboxHigh → kind ≠ .entryRefused → alert t kind = alert s kind
  readers : t.readers = s.readers
  enRoute : t.returns.enRoute = s.returns.enRoute
  frame   : t = { s with
    belt := t.belt, readers := t.readers, tunnel := t.tunnel, pacing := t.pacing, registry := t.registry, outbox := t.outbox
    returns := t.returns, tray := t.tray, sup := t.sup }

/-- The check closed by an event that finds nobody waiting. -/
theorem settle_closeCheck {s : State} {k : ExitRecord} (hnobody : nobodyWaits s = true)
    (hslot : s.tunnel.slot = some k) : ClosesCheck s (settle (closeCheck s)) (washOfExit s k k.flags (some k.exit)) := by
  obtain ⟨houtbox, htunnel, hwashed, halerts⟩ := closeCheck_closes hslot rfl
  obtain ⟨hstage, hregistry, hreturns, -⟩ :=
    settle_quiet (s := closeCheck s) (nobodyWaits_of_stage hnobody (by simp))
  refine ⟨?_, ?_, fun m => ?_, fun kind hhigh hrefused => ?_, by simp, ?_, ?_⟩
  · rw [← houtbox]
    simp
  · rw [← htunnel]
    simp
  · rw [row, hregistry]
    exact hwashed m
  · rw [alert_settle hrefused, halerts kind hhigh]
  · rw [hreturns]
    simp
  · apply state_ext <;> simp [hstage]

/-! ## The exit eye -/

/-- The state in which the exit eye looks for the head: its reader at attempt 1 and the lamp off (R51). -/
def exitBlocked (s : State) : State :=
  { s with
    inputs := inputsTurned s .ex
    readers := { s.readers with exit := { s.readers.exit with attempt := some 1 } }
    tunnel := { s.tunnel with lamp := .off } }

/-- The exit eye that becomes blocked over an empty slot, with no head overdue, matches the head (R51). -/
theorem exec_exitBlocked {s : State} (hslot : s.tunnel.slot = none) (hidle : s.readers.exit.attempt = none)
    (hon : turnsOn s .ex) (hhead : ∀ r ∈ s.tunnel.list.head?, travel s r.entry ≤ par s .xexit + par s .extol) :
    exec (.filterTimeReached .ex) s = .next (settle (matchHead (exitBlocked s))) := by
  have hidle' : (reader (turned s .ex) .exit).attempt = none := hidle
  have hexec : exec (.filterTimeReached .ex) s = .next (settle (exitEyeBlocked (startRead (turned s .ex) .exit))) :=
    exec_turnsOn hon
  have hlamp : lampOff (startRead (turned s .ex) .exit) = exitBlocked s := by
    rw [startRead_idle hidle']
    rfl
  have hslot' : (exitBlocked s).tunnel.slot = none := hslot
  have hoverdue : closeOverdue (exitBlocked s) = exitBlocked s :=
    closeOverdue_none _ fun r hr => by
      simp only [overdue, decide_eq_false_iff_not, Nat.not_lt]
      exact hhead r hr
  rw [hexec, exitEyeBlocked, hlamp, hslot']
  simp only [hoverdue]

/-- A rack that meets no head in the window (R52): the EXTRA record where there is room, and the alerts. -/
theorem extraAtExit_writes {s : State} (hslot : s.tunnel.slot = none) :
    (extraAtExit s).tunnel = { s.tunnel with slot := if reservation s + 1 ≤ 96 then some (extraRecord s) else none }
      ∧ Raised s (extraAtExit s) .exitExtra s.belt.odometer none
      ∧ if reservation s + 1 ≤ 96 then alert (extraAtExit s) .extraUnlogged = alert s .extraUnlogged
        else Raised s (extraAtExit s) .extraUnlogged s.belt.odometer none := by
  have hextra := raise_raised s .exitExtra none
  by_cases hroom : reservation s + 1 ≤ 96
  · have heq : extraAtExit s = setSlot (raise s .exitExtra none) (some (extraRecord s)) := if_pos hroom
    rw [heq, if_pos hroom, if_pos hroom]
    refine ⟨rfl, hextra, ?_⟩
    have hsup : alert (setSlot (raise s .exitExtra none) (some (extraRecord s))) .extraUnlogged
        = alert (raise s .exitExtra none) .extraUnlogged := rfl
    rw [hsup, alert_raise, if_neg (by decide)]
  · have heq : extraAtExit s = raise (raise s .exitExtra none) .extraUnlogged none := if_neg hroom
    rw [heq, if_neg hroom, if_neg hroom]
    refine ⟨tunnel_ext rfl hslot rfl, ?_, ?_⟩
    · rw [Raised] at hextra ⊢
      rw [alert_raise, if_neg (by decide), hextra]
    · have hunlogged := raise_raised (raise s .exitExtra none) .extraUnlogged none
      rw [Raised] at hunlogged ⊢
      rw [hunlogged, alert_raise, if_neg (by decide)]
      rfl

/-- Settles O23. -/
theorem exitEyeMatchesTheHeadOrFindsAnExtra : Obligations.ExitEyeMatchesTheHeadOrFindsAnExtra := by
  intro s hslot hnobody hidle hon
  let b := exitBlocked s
  refine ⟨fun h rest hlist hearliest hlatest => ?_, fun hearly => ?_⟩
  · let k := exitRecordOf h s.belt.odometer h.flags
    let u := setPlaceOf { b with tunnel := { list := rest, slot := some k, lamp := .off } } h.rack .atExit
    have hexec := exec_exitBlocked hslot hidle hon (by
      rw [hlist]
      rintro r ⟨⟩
      exact hlatest)
    have hwindow : inWindow b h = true := by
      simp only [inWindow, overdue, Bool.and_eq_true, decide_eq_true_eq, Bool.not_eq_true', decide_eq_false_iff_not,
        Nat.not_lt]
      exact ⟨hearliest, hlatest⟩
    have hlist' : b.tunnel.list = h :: rest := hlist
    have hmatch : matchHead b = u := by
      simp only [matchHead, hlist', hwindow, if_true]
      rfl
    rw [hmatch] at hexec
    obtain ⟨hstage, hregistry, -, -, halerts, -⟩ := settle_quiet (s := u) (nobodyWaits_of_stage hnobody (by simp [u]; rfl))
    refine ⟨_, hexec, by simp [u]; rfl, fun m => ?_, by simp [u]; rfl, by rw [halerts]; simp [u]; rfl, ?_⟩
    · rw [row, hregistry]
      exact setPlaceOf_onlyPlaced { b with tunnel := { list := rest, slot := some k, lamp := .off } } h.rack .atExit m
    · apply state_ext <;> simp [hstage] <;> simp [u] <;> rfl
  · have hexec := exec_exitBlocked hslot hidle hon fun r hr => by
      have := hearly r hr
      omega
    have hmatch : matchHead b = extraAtExit b := by
      cases hlist : b.tunnel.list with
      | nil => simp only [matchHead, hlist]
      | cons h rest =>
        have hwindow : inWindow b h = false := by
          have hlate : ¬ par s .xexit ≤ travel s h.entry + par s .extol :=
            Nat.not_le.mpr (hearly h (by rw [show s.tunnel.list = h :: rest from hlist]; rfl))
          simp only [inWindow, Bool.and_eq_false_iff, decide_eq_false_iff_not]
          exact .inl hlate
        simp only [matchHead, hlist, hwindow]
        rfl
    rw [hmatch] at hexec
    obtain ⟨hstage, hregistry, -⟩ := settle_quiet (s := extraAtExit b) (nobodyWaits_of_stage hnobody (by simp; rfl))
    have hframe : settle (extraAtExit b) = { s with
        belt := (settle (extraAtExit b)).belt, inputs := inputsTurned s .ex
        readers := (settle (extraAtExit b)).readers, tunnel := (settle (extraAtExit b)).tunnel
        pacing := (settle (extraAtExit b)).pacing, registry := (settle (extraAtExit b)).registry
        returns := (settle (extraAtExit b)).returns, tray := (settle (extraAtExit b)).tray
        sup := (settle (extraAtExit b)).sup } := by
      apply state_ext <;> simp [hstage] <;> rfl
    obtain ⟨htunnel, hraised, hunlogged⟩ := extraAtExit_writes (s := b) hslot
    refine ⟨_, hexec, ?_, raised_settle hraised (by decide), ?_, hregistry.trans (by simp; rfl), by simp; rfl, hframe⟩
    · rw [(by simp : (settle (extraAtExit b)).tunnel = (extraAtExit b).tunnel), htunnel]
      rfl
    · have hroom : reservation b = reservation s := rfl
      rw [hroom] at hunlogged
      by_cases h : reservation s + 1 ≤ 96
      · rw [if_pos h] at hunlogged ⊢
        rw [alert_settle (by decide), hunlogged]
        rfl
      · rw [if_neg h] at hunlogged ⊢
        exact raised_settle hunlogged (by decide)

/-- Settles O24. -/
theorem exitEyeClearClosesTheCheckUnread : Obligations.ExitEyeClearClosesTheCheckUnread := by
  intro s hnobody hoff
  let b := abandonRead (turned s .ex) .exit
  let c := changeSlot b fun k => { k with flags := { k.flags with exitUnread := true } }
  have hexec : exec (.filterTimeReached .ex) s = .next (settle (closeCheck c)) := exec_turnsOff hoff
  have hc : c.tunnel.slot
      = s.tunnel.slot.map fun k => { k with flags := { k.flags with exitUnread := true } } := rfl
  refine ⟨fun k hslot hunread => ?_, fun hslot hsettled => ?_⟩
  · let k' : ExitRecord := { k with flags := { k.flags with exitUnread := true } }
    have hslot' : c.tunnel.slot = some k' := by rw [hc, hslot]; rfl
    obtain ⟨houtbox, htunnel, hwashed, -, hreaders, hroute, hframe⟩ := settle_closeCheck (s := c) hnobody hslot'
    have hcounts : countsFor (washOfExit c k' k'.flags (some k'.exit)) = k.rack := by
      simp only [countsFor, washOfExit, k', hunread]
    rw [hcounts] at hwashed
    refine ⟨_, _, hexec, rfl, ?_, htunnel, hwashed, hreaders, hroute, hframe⟩
    rw [houtbox]
    simp only [washOfExit, k', hunread]
    rfl
  · have hnone : c.tunnel.slot = none := by rw [hc, hslot]; rfl
    have hclose : closeCheck c = c := by simp only [closeCheck, hnone]
    have hc' : c = { s with
        inputs := inputsTurned s .ex
        readers := { s.readers with exit := { s.readers.exit with attempt := none } } } := by
      apply state_ext
      case tunnel => exact tunnel_ext rfl (hnone.trans hslot.symm) rfl
      all_goals rfl
    rw [hexec, hclose, hc']
    exact congrArg _ (settle_of_line hsettled hnobody rfl rfl rfl rfl rfl rfl)

/-! ## The exit read -/

theorem exec_exitRead {s : State} {a : Nat} {k : ExitRecord} (n : Rack) (hattempt : s.readers.exit.attempt = some a)
    (ha : a ≤ 3) (hslot : s.tunnel.slot = some k) :
    exec (.readerAnswer .exit (digitChar a :: tagText n)) s = .next (settle
      (if k.flags.extra then nameAndClose (abandonRead s .exit) n else exitRead (abandonRead s .exit) k n)) := by
  have hslot' : (abandonRead s .exit).tunnel.slot = some k := hslot
  rw [exec_readerAnswer_tag (r := .exit) n hattempt ha]
  simp only [deliverOutcome, exitOutcome, hslot']

/-- A rack that no collection has is not given up at the exit; a vacant one comes off the en-route list (R56). -/
theorem claimAtExit_free {s : State} {n : Rack}
    (h : ∀ w, row s n = some w → w.place ≠ .inTunnel ∧ w.place ≠ .admitting ∧ w.place ≠ .onReturn) :
    claimAtExit s n = if row s n = none then removeEnRoute s n else s := by
  cases hrow : row s n with
  | none => simp [claimAtExit, placeOf, hrow]
  | some w =>
    obtain ⟨htunnel, hadmitting, hreturn⟩ := h w hrow
    unfold claimAtExit
    cases hp : w.place <;> simp_all [placeOf]

theorem exitRead_confirms {s : State} {k : ExitRecord} {n : Rack} (h : k.rack = some n) :
    exitRead s k n = closeCheck s := if_pos h

theorem exitRead_names {s : State} {k : ExitRecord} {n : Rack} (h : k.rack = none)
    (hhead : ∀ r ∈ s.tunnel.list.head?, r.rack ≠ some n) : exitRead s k n = nameAndClose s n := by
  have hfilter : s.tunnel.list.head?.filter (fun r => r.rack == some n) = none :=
    Option.filter_eq_none_iff.mpr fun r hr => by simpa using hhead r hr
  simp only [exitRead, h, hfilter]
  rfl

theorem exitRead_swaps {s : State} {k : ExitRecord} {m n : Rack} (h : k.rack = some m) (hmn : m ≠ n)
    (hhead : ∀ r ∈ s.tunnel.list.head?, r.rack ≠ some n) : exitRead s k n = swapExit s m n := by
  have hfilter : s.tunnel.list.head?.filter (fun r => r.rack == some n) = none :=
    Option.filter_eq_none_iff.mpr fun r hr => by simpa using hhead r hr
  have hother : k.rack ≠ some n := by rw [h]; exact fun heq => hmn (Option.some.inj heq)
  rw [exitRead, if_neg hother, hfilter, h]

theorem exitRead_repairs {s : State} {k : ExitRecord} {n : Rack} {r : TunnelRecord} {rest : List TunnelRecord}
    (h : k.rack ≠ some n) (hlist : s.tunnel.list = r :: rest) (hr : r.rack = some n) :
    exitRead s k n = repairExit s k r := by
  have hfilter : s.tunnel.list.head?.filter (fun r => r.rack == some n) = some r := by
    rw [hlist]
    exact Option.filter_some_pos (by simpa using hr)
  rw [exitRead, if_neg h, hfilter]

/-- Settles O25. -/
theorem exitReadConfirmsTheRecord : Obligations.ExitReadConfirmsTheRecord := by
  intro s a n k _ ha hattempt hnobody hslot hunread hwhich hclaim
  let b := abandonRead s .exit
  let cls := if k.rack = some n ∧ k.flags.extra = false then k.cls else (row s n).map Row.cls
  let k' : ExitRecord := { k with rack := some n, cls := cls }
  obtain ⟨c, hexec, hc⟩ : ∃ c, exec (.readerAnswer .exit (digitChar a :: tagText n)) s = .next (settle (closeCheck c))
      ∧ c = { b with
          tunnel := { s.tunnel with slot := some k' }
          returns := { s.returns with enRoute :=
            if (k.rack ≠ some n ∨ k.flags.extra = true) ∧ row s n = none then
              s.returns.enRoute.filter (fun e => e.rack != some n)
            else s.returns.enRoute } } := by
    by_cases hown : k.rack = some n ∧ k.flags.extra = false
    · obtain ⟨hrack, hextra⟩ := hown
      refine ⟨b, ?_, ?_⟩
      · rw [exec_exitRead n hattempt ha hslot, hextra, if_neg (by decide), exitRead_confirms hrack]
      · have hkept : k' = k := by
          simp only [k', cls, if_pos (And.intro hrack hextra), ← hrack]
        apply state_ext
        case tunnel => exact tunnel_ext rfl (hslot.trans (congrArg some hkept.symm)) rfl
        case returns =>
          refine returns_ext rfl ?_ rfl rfl rfl
          exact (if_neg fun h => h.1.elim (fun h => h hrack) (fun h => by rw [hextra] at h; cases h)).symm
        all_goals rfl
    · have hother : k.rack ≠ some n ∨ k.flags.extra = true := by
        by_contra hnot
        push Not at hnot
        exact hown ⟨hnot.1, Bool.eq_false_iff.mpr hnot.2⟩
      have hnamed : exec (.readerAnswer .exit (digitChar a :: tagText n)) s = .next (settle (nameAndClose b n)) := by
        rw [exec_exitRead n hattempt ha hslot]
        rcases hwhich with hconfirms | ⟨hrack, hextra, hhead⟩ | hextra
        · exact absurd hconfirms hown
        · rw [hextra, if_neg (by decide), exitRead_names (s := b) hrack hhead]
        · rw [if_pos hextra]
      refine ⟨claimAtExit (nameSlot b n) n, hnamed, ?_⟩
      have hname : nameSlot b n = { b with tunnel := { s.tunnel with slot := some k' } } := by
        have hslot' : b.tunnel.slot = some k := hslot
        simp only [nameSlot, changeSlot, hslot', k', cls, if_neg hown]
        rfl
      rw [claimAtExit_free (s := nameSlot b n) (hclaim hother), hname]
      by_cases hvacant : row s n = none
      · rw [if_pos (And.intro hother hvacant)]
        exact if_pos hvacant
      · rw [if_neg (c := (k.rack ≠ some n ∨ k.flags.extra = true) ∧ row s n = none) fun h => hvacant h.2]
        exact if_neg hvacant
  have hslot' : c.tunnel.slot = some k' := by rw [hc]
  have hnobody' : nobodyWaits c = true := nobodyWaits_of_stage hnobody (by rw [hc]; rfl)
  obtain ⟨houtbox, htunnel, hwashed, -, hreaders, hroute, hframe⟩ := settle_closeCheck hnobody' hslot'
  have hcounts : countsFor (washOfExit c k' k'.flags (some k'.exit)) = some n := by
    simp only [countsFor, washOfExit, k', hunread]
  rw [hcounts] at hwashed
  refine ⟨_, _, _, hexec, rfl, rfl, ?_, ?_, ?_, ?_, ?_, ?_⟩
  · rw [houtbox, hc]
    simp only [washOfExit, k', hunread]
    rfl
  · rw [htunnel, hc]
    rfl
  · rw [hc] at hwashed ⊢
    exact hwashed
  · rw [hreaders, hc]
    rfl
  · rw [hroute, hc]
  · rw [hframe, hc]
    rfl

theorem washOfExit_unknown {s : State} {k : ExitRecord} {f : Flags} {exit : Option Odometer}
    (h : f.unvouched = true) : (washOfExit s k f exit).verdict = .unknown := verdictOf_unvouched h

theorem washOfExit_unvouched {s : State} {k : ExitRecord} {f : Flags} (exit : Option Odometer)
    (h : f.unvouched = true) :
    washOfExit s k f exit =
      { serial := s.outbox.nextSerial, rack := k.rack, readNumber := k.readNumber, cls := k.cls, entry := k.entry
        exit := exit, dose := k.dose, washTime := k.washTime, minRinse := k.minRinse, verdict := .unknown
        flags := f } := by
  rw [washOfExit, verdictOf_unvouched h]

/-- Settles O26. -/
theorem exitReadOfTheHeadRepairs : Obligations.ExitReadOfTheHeadRepairs := by
  intro s a n k h rest _ ha hattempt hnobody hslot hrack hunread hextra hlist hhead
  let b := abandonRead s .exit
  let w := washOfExit (setSlot b none) k { k.flags with missing := true } none
  let u := closeMissingSlot (setSlot b none) k
  let k' := exitRecordOf h s.belt.odometer { h.flags with repaired := true }
  let c := setPlaceOf { u with tunnel := { list := rest, slot := some k', lamp := s.tunnel.lamp } } h.rack .atExit
  have hbelt : u.belt = s.belt := by simp [u]; rfl
  have htunnel : u.tunnel = { list := h :: rest, slot := none, lamp := s.tunnel.lamp } := by
    simp [u]
    exact tunnel_ext hlist rfl rfl
  have hexec : exec (.readerAnswer .exit (digitChar a :: tagText n)) s = .next (settle (closeCheck c)) := by
    rw [exec_exitRead n hattempt ha hslot, hextra, if_neg (by decide), exitRead_repairs (s := b) hrack hlist hhead]
    have hrepair : repairExit b k h = closeCheck (setPlaceOf
        { u with tunnel := { u.tunnel with
            list := u.tunnel.list.tail
            slot := some (exitRecordOf h u.belt.odometer { h.flags with repaired := true }) } } h.rack .atExit) := rfl
    have hmoved : ({ u with tunnel := { u.tunnel with
            list := u.tunnel.list.tail
            slot := some (exitRecordOf h u.belt.odometer { h.flags with repaired := true }) } } : State)
        = { u with tunnel := { list := rest, slot := some k', lamp := s.tunnel.lamp } } := by
      apply state_ext
      case tunnel => exact tunnel_ext (by rw [htunnel]; rfl) (by rw [hbelt]) (by rw [htunnel])
      all_goals rfl
    rw [hrepair, hmoved]
  have hslot' : c.tunnel.slot = some k' := by simp [c]
  have hnobody' : nobodyWaits c = true := nobodyWaits_of_stage hnobody (by simp [c, u]; rfl)
  obtain ⟨houtbox, htunnel', hwashed, halerts, hreaders, hroute, hframe⟩ := settle_closeCheck hnobody' hslot'
  have hunknown : (washOfExit c k' k'.flags (some k'.exit)).verdict = .unknown :=
    washOfExit_unknown (by simp [k', exitRecordOf, Flags.unvouched])
  have hcounts : countsFor (washOfExit c k' k'.flags (some k'.exit)) = some n := hhead
  have hfiled : c.outbox = { queue := s.outbox.queue ++ [w], nextSerial := serialAfter s.outbox.nextSerial } := by
    have hplaced : c.outbox = (fileRecord (setSlot b none) w).outbox := by simp [c, u, closeMissingSlot, missingFiled, w]
    rw [hplaced, fileRecord_outbox]
    rfl
  have hmissing : w.verdict = .unknown := washOfExit_unknown (by simp [Flags.unvouched])
  refine ⟨_, u, hexec, ?_, ?_, ?_, ?_, ?_, ?_, ?_, ?_⟩
  · rw [houtbox, hfiled, List.append_assoc]
    refine congrArg (s.outbox.queue ++ ·) ?_
    have hfirst := washOfExit_unvouched (s := setSlot b none) (k := k) (f := { k.flags with missing := true }) none
      (by simp [Flags.unvouched])
    have hsecond := washOfExit_unvouched (s := c) (k := k') (f := k'.flags) (some k'.exit)
      (by simp [k', exitRecordOf, Flags.unvouched])
    rw [show w = _ from hfirst, hsecond, hfiled, hunread, show k'.rack = some n from hhead]
    rfl
  · rw [htunnel', hunknown]
    simp [c]
  · have hraised : Raised (setSlot b none) u .exitMissing s.belt.odometer k.rack :=
      missingFiled_raised (setSlot b none) w k.rack
    rw [Raised] at hraised ⊢
    rw [halerts _ (by decide) (by decide)]
    have hplaced : alert c .exitMissing = alert u .exitMissing := by simp [alert, c]
    rw [hplaced, hraised]
    rfl
  · have hcounts' : countsFor w = k.rack := by simp only [countsFor, w, washOfExit, hunread]
    exact missingFiled_washed hcounts' hmissing
  · intro r
    have hr := hwashed r
    have hplaced : row c r = if h.rack = some r then (row u r).map fun w => { w with place := .atExit } else row u r :=
      setPlaceOf_onlyPlaced { u with tunnel := { list := rest, slot := some k', lamp := s.tunnel.lamp } } h.rack .atExit r
    have hserial : (washOfExit c k' k'.flags (some k'.exit)).serial = serialAfter s.outbox.nextSerial := by
      rw [washOfExit, hfiled]
    rw [hunknown, hcounts, hserial, hplaced, hhead] at hr
    rw [hr]
    by_cases hn : some n = some r
    · rw [if_pos hn, if_pos hn, if_pos hn, Option.map_map]
      rfl
    · rw [if_neg hn, if_neg hn, if_neg hn]
  · rw [hreaders]
    simp [c, u]
    rfl
  · rw [hroute]
    simp [c, u]
    rfl
  · rw [hframe]
    apply state_ext <;> simp [c, u] <;> rfl

/-- Settles O27. -/
theorem exitReadOfAnotherRackSwaps : Obligations.ExitReadOfAnotherRackSwaps := by
  intro s a m n k _ ha hattempt hnobody hslot hrack hmn hextra hhead ⟨w, hrow, hplace⟩
  let b := abandonRead s .exit
  let k' : ExitRecord := { k with flags := { k.flags with swap := true }, readNumber := some n }
  let u := setPlace { b with tunnel := { s.tunnel with slot := some k' } } m .lost
  let c := raise u .exitSwap (some n)
  have hrow' : row u n = some w := by
    simp only [u, row_setPlace, if_neg hmn]
    exact hrow
  have hclaim : claimAtExit u n = u := by
    rw [claimAtExit_free fun w' hw' => ?_, if_neg (by rw [hrow']; simp)]
    rw [hrow'] at hw'
    cases hw'
    exact hplace
  have hexec : exec (.readerAnswer .exit (digitChar a :: tagText n)) s = .next (settle (closeCheck c)) := by
    rw [exec_exitRead n hattempt ha hslot, hextra, if_neg (by decide), exitRead_swaps (s := b) hrack hmn hhead]
    have hslotted : changeSlot b (fun k => { k with flags := { k.flags with swap := true }, readNumber := some n })
        = { b with tunnel := { s.tunnel with slot := some k' } } := by
      have hslot' : b.tunnel.slot = some k := hslot
      rw [changeSlot, hslot']
      rfl
    rw [swapExit, hslotted, hclaim]
  have hslot' : c.tunnel.slot = some k' := by simp [c, u]
  have hnobody' : nobodyWaits c = true := nobodyWaits_of_stage hnobody (by simp [c, u]; rfl)
  obtain ⟨houtbox, htunnel, hwashed, halerts, hreaders, hroute, hframe⟩ := settle_closeCheck hnobody' hslot'
  have hunknown : (washOfExit c k' k'.flags (some k'.exit)).verdict = .unknown :=
    washOfExit_unknown (by simp [k', Flags.unvouched])
  refine ⟨_, u, hexec, ?_, ?_, ?_, ?_, ?_, ?_, ?_, ?_⟩
  · have hcut := washOfExit_unvouched (s := c) (k := k') (f := k'.flags) (some k'.exit) (by simp [k', Flags.unvouched])
    have hc : c.outbox = s.outbox := by
      simp [c, u]
      rfl
    rw [houtbox, hcut, hc, show k'.rack = some m from hrack]
  · rw [htunnel, hunknown]
    simp [c, u]
  · have hraised := raise_raised u .exitSwap (some n)
    rw [Raised] at hraised ⊢
    have hu : u.sup = s.sup := by
      simp [u]
      rfl
    have hbelt : u.belt = s.belt := by
      simp [u]
      rfl
    rw [halerts _ (by decide) (by decide), hraised, alert, hu, hbelt]
    rfl
  · exact setPlaceOf_onlyPlaced { b with tunnel := { s.tunnel with slot := some k' } } (some m) .lost
  · have hserial : c.outbox.nextSerial = s.outbox.nextSerial := by
      simp [c, u]
      rfl
    have hcounts : countsFor (washOfExit c k' k'.flags (some k'.exit)) = some n := rfl
    have hrows : ∀ r, row c r = row u r := fun r => by
      rw [row, row, (by simp [c] : c.registry = u.registry)]
    intro r
    have hr := hwashed r
    rw [hunknown, hcounts, hrows] at hr
    rw [← hserial]
    exact hr
  · rw [hreaders]
    simp [c, u]
    rfl
  · rw [hroute]
    simp [c, u]
    rfl
  · rw [hframe]
    apply state_ext <;> simp [c, u] <;> rfl

end Sys2Proof.Proofs
end

section
/-! PROOFS. A millimetre of forward travel (sections 1.1, 3.5, 4.2 and 11.3): run-on, lapse and the overdue head. -/

namespace Sys2Proof.Proofs

open Sys2Proof.Machine Sys2Proof.Laws

/-! ## One travel event -/

/-- The state after a forward pulse of one millimetre, before the lapse and the overdue head (R3, R8, R161). -/
def travelled (s : State) : State := runOnStep (advanceOdometer (forwardCount s))

theorem exec_forwardPulse_one {s : State} (h : pulseTravels s = 1) :
    exec .forwardPulse s = .next (settle (closeOverdue (lapseStep (travelled s)))) := by
  rw [exec_forwardPulse, h]
  rfl

theorem travelled_eq (s : State) :
    travelled s = { s with
      belt := (travelled s).belt
      sup := { s.sup with runOn := if countsRunOn s then s.sup.runOn + 1 else s.sup.runOn } } := by
  have hcounts : countsRunOn (advanceOdometer (forwardCount s)) = countsRunOn s := rfl
  rw [travelled, runOnStep, hcounts]
  split <;> rfl

@[simp] theorem travelled_odometer (s : State) : (travelled s).belt.odometer = s.belt.odometer + 1 := by
  rw [travelled, (runOnStep_frame _).1]
  rfl

theorem lapseStep_notAdmitting {s : State} (h : s.stage = .empty ∨ s.stage = .reading) : lapseStep s = s := by
  rcases h with h | h <;> simp [lapseStep, h]

/-- Settles O6. -/
theorem runOnParksAnEmptyLine : Obligations.RunOnParksAnEmptyLine := by
  intro s hstage hone hmode hempty hdraining hheld
  have hcounts : countsRunOn s = true := by simp [countsRunOn, hmode, hempty, hdraining, hheld]
  have htravelled := travelled_eq s
  rw [if_pos hcounts] at htravelled
  have hstage' : (travelled s).stage = s.stage := by rw [htravelled]
  have hlist : (travelled s).tunnel.list = [] := by
    rw [htravelled]
    simpa [lineEmpty] using And.left (And.left (by simpa [lineEmpty] using hempty))
  have hexec : exec .forwardPulse s = .next (settle (travelled s)) := by
    rw [exec_forwardPulse_one hone, lapseStep_notAdmitting (by rwa [hstage']), closeOverdue_none _ (by simp [hlist])]
  have hnobody : nobodyWaits (travelled s) = true := nobodyWaits_of_approach (by rwa [hstage'])
  have hempty' : lineEmpty (travelled s) = true := by rw [htravelled]; exact hempty
  have hdrain : drainEnds (travelled s) = false := by rw [htravelled]; simp [drainEnds, hdraining]
  have hends : runOnEnds (travelled s) = decide (par s .runon ≤ s.sup.runOn + 1) := by
    simp only [runOnEnds, hempty']
    rw [htravelled]
    simp [hmode, hdraining, hheld]
    rfl
  refine ⟨_, hexec, ?_⟩
  by_cases hshort : s.sup.runOn + 1 < par s .runon
  · have hsettle := settle_stays hnobody hempty' hdrain (by rw [hends]; simpa using hshort)
    rw [if_pos hshort, hsettle, htravelled]
    exact ⟨⟨rfl, rfl, rfl, rfl⟩, rfl⟩
  · have hsettle := settle_runOut hnobody (by rw [hends]; simpa using hshort)
    have hbelt : (settle (travelled s)).pacing.beltRun = false := by rw [hsettle, changeMode_beltRun]; rfl
    rw [if_neg hshort]
    refine ⟨⟨?_, hbelt⟩, ?_⟩
    · rw [hsettle, changeMode_sup, htravelled]
      rfl
    · rw [hsettle, changeMode_moving (by rw [htravelled]; simp [hmode, stopsTrays]) rfl, htravelled]

/-- Settles O7. -/
theorem pendingAdmissionLapses : Obligations.PendingAdmissionLapses := by
  intro s p n held hstage hlist hone happroach
  have htravelled := travelled_eq s
  have hstage' : (travelled s).stage = .admitting p n held := by rw [htravelled]; exact hstage
  have hlist' : (travelled s).tunnel.list = [] := by rw [htravelled]; exact hlist
  have hexec : exec .forwardPulse s = .next (settle (lapseStep (travelled s))) := by
    rw [exec_forwardPulse_one hone, closeOverdue_none _ (by simp [hlist'])]
  have hpar : par (travelled s) .admitLapse = par s .admitLapse := by rw [htravelled]; rfl
  refine ⟨_, hexec, ?_⟩
  by_cases hshort : n + 1 < par s .admitLapse
  · have hlapse : lapseStep (travelled s) = setStage (travelled s) (.admitting p (n + 1) held) := by
      simp only [lapseStep, hstage', hpar, if_neg (Nat.not_le.mpr hshort)]
    have hsettle : settle (setStage (travelled s) (.admitting p (n + 1) held)) = _ :=
      settle_occupied (nobodyWaits_of_admitting rfl) (by simp [lineEmpty, setStage, Stage.pending?])
    rw [if_pos hshort, hlapse, hsettle, htravelled]
    exact ⟨⟨rfl, rfl, rfl⟩, rfl, rfl⟩
  · have hclear : isActive (travelled s) .ap = false := by rw [htravelled]; exact happroach
    let v := raise (setStage (travelled s) .reading) .entryMiss p.rack
    let u := setStage (setPlaceOf v p.rack .unseen) .empty
    have hv : isActive (setPlaceOf v p.rack .unseen) .ap = false := by
      rw [isActive, channel, (setPlaceOf_frame v p.rack .unseen).2.1]
      exact hclear
    have hlapse : lapseStep (travelled s) = u := by
      simp only [lapseStep, hstage', hpar, if_pos (Nat.not_lt.mp hshort)]
      exact (if_neg (by rw [hv]; decide) : resumeApproach (setPlaceOf v p.rack .unseen) held = _)
    obtain ⟨hqstage, hqregistry, hqreturns, hqtray, hqalerts, -⟩ :=
      settle_quiet (s := u) (nobodyWaits_of_approach (.inl rfl))
    have hregistry : (settle u).registry = (setPlaceOf s p.rack .unseen).registry :=
      hqregistry.trans (setPlaceOf_registry p.rack .unseen (by simp [v]; rw [htravelled]))
    have hraised : Raised (travelled s) v .entryMiss (travelled s).belt.odometer p.rack := by
      exact raise_raised (setStage (travelled s) .reading) .entryMiss p.rack
    have hureturns : u.returns = s.returns := by simp [u, v]; rw [htravelled]
    rw [if_neg hshort, hlapse]
    refine ⟨⟨hqstage, ?_, fun m => ?_⟩, ?_, ?_⟩
    · rw [Raised] at hraised ⊢
      have halert : alert (settle u) .entryMiss = alert v .entryMiss := by
        rw [alert, hqalerts, alert]
        simp [u]
      rw [halert, hraised, travelled_odometer, htravelled]
      rfl
    · rw [row, hregistry]
      exact setPlaceOf_onlyPlaced s p.rack .unseen m
    · rw [hqreturns, hureturns]
    · apply state_ext <;> simp [u, v]
      all_goals rw [htravelled]

/-! ## The overdue head -/

/-- Settling an event where nobody waits leaves every row as it is. -/
theorem onlyWashed_settle {s u : State} {rack : Option Rack} {v : Verdict} {serial : Nat} {place : Place → Place}
    (h : OnlyWashed s u rack v serial place) (hnobody : nobodyWaits u = true) :
    OnlyWashed s (settle u) rack v serial place := by
  intro m
  rw [row, (settle_quiet hnobody).2.1]
  exact h m

/-- The head alone overdue is closed as MISSING (R53). -/
theorem closeOverdue_head {s : State} {h : TunnelRecord} {rest : List TunnelRecord} (hlist : s.tunnel.list = h :: rest)
    (hoverdue : overdue s h = true) (hkept : ∀ r ∈ rest.head?, overdue s r = false) :
    closeOverdue s = closeMissing { s with tunnel := { s.tunnel with list := rest } } h := by
  have htake : (h :: rest).takeWhile (overdue s) = [h] ∧ (h :: rest).dropWhile (overdue s) = rest := by
    rw [List.takeWhile_cons_of_pos hoverdue, List.dropWhile_cons_of_pos hoverdue]
    cases rest with
    | nil => exact ⟨rfl, rfl⟩
    | cons r rest =>
      have hr : ¬ overdue s r = true := by rw [hkept r rfl]; decide
      exact ⟨by rw [List.takeWhile_cons_of_neg hr], List.dropWhile_cons_of_neg hr⟩
  rw [closeOverdue, hlist, htake.1, htake.2]
  rfl

/-- Settles O8. -/
theorem overdueHeadIsClosedAsMissing : Obligations.OverdueHeadIsClosedAsMissing := by
  intro s h rest hlist hstage hone hwindow hhead hrest
  have htravelled := travelled_eq s
  have hstage' : (travelled s).stage = s.stage := by rw [htravelled]
  have htravel : ∀ e : Odometer, travel s e < 16000000 → travel (travelled s) e = travel s e + 1 := by
    intro e he
    simp only [travel, travelled_odometer] at he ⊢
    bv_omega
  have hpar : ∀ p, par (travelled s) p = par s p := fun p => by rw [htravelled]; rfl
  let u := { travelled s with tunnel := { (travelled s).tunnel with list := rest } }
  have hoverdue : overdue (travelled s) h = true := by
    simp only [overdue, hpar, htravel h.entry (by omega), decide_eq_true_eq]
    omega
  have hkept : ∀ q ∈ rest.head?, overdue (travelled s) q = false := fun q hq => by
    simp only [overdue, hpar, htravel q.entry (by have := hrest q hq; omega), decide_eq_false_iff_not]
    have := hrest q hq
    omega
  have hlist' : (travelled s).tunnel.list = h :: rest := by rw [htravelled]; exact hlist
  let w := washOfTunnel u h { h.flags with missing := true }
  have hclose : closeOverdue (travelled s) = missingFiled (fileRecord u w) h.rack :=
    closeOverdue_head hlist' hoverdue hkept
  have hexec : exec .forwardPulse s = .next (settle (missingFiled (fileRecord u w) h.rack)) := by
    rw [exec_forwardPulse_one hone, lapseStep_notAdmitting (by rwa [hstage']), hclose]
  have hw : w =
      { serial := s.outbox.nextSerial, rack := h.rack, readNumber := none, cls := h.cls, entry := some h.entry
        exit := none, dose := h.dose, washTime := h.washTime, minRinse := h.minRinse, verdict := .unknown
        flags := { h.flags with missing := true } } := by
    have hserial : u.outbox.nextSerial = s.outbox.nextSerial := by simp only [u]; rw [htravelled]
    simp only [w, washOfTunnel, hserial, verdictOf_unvouched (f := { h.flags with missing := true })
      (by simp [Flags.unvouched])]
  have hnobody : nobodyWaits (missingFiled (fileRecord u w) h.rack) = true :=
    nobodyWaits_of_approach (by simp [u]; rwa [hstage'])
  obtain ⟨hqstage, hqregistry, hqreturns, -⟩ := settle_quiet hnobody
  have houtbox : (settle (missingFiled (fileRecord u w) h.rack)).outbox
      = { queue := s.outbox.queue ++ [w], nextSerial := serialAfter s.outbox.nextSerial } := by
    have hfiled : (settle (missingFiled (fileRecord u w) h.rack)).outbox = (fileRecord u w).outbox := by
      simp [missingFiled]
    have hu : u.outbox = s.outbox := by simp only [u]; rw [htravelled]
    rw [hfiled, fileRecord_outbox, hu]
  have hraised := raised_settle (missingFiled_raised u w h.rack) (by decide)
  have hwashed : OnlyWashed u (missingFiled (fileRecord u w) h.rack) h.rack .unknown w.serial (fun _ => .lost) :=
    missingFiled_washed rfl (by rw [hw])
  have hwashed' := onlyWashed_settle hwashed hnobody
  have hrows : ∀ m, row u m = row s m := fun m => by
    rw [row, row, show u.registry = s.registry by simp only [u]; rw [htravelled]]
  refine ⟨_, hexec, ?_, ?_, ?_, ?_, fun m => ?_, ?_, ?_, ?_⟩
  · have htunnel : (settle (missingFiled (fileRecord u w) h.rack)).tunnel = u.tunnel := by simp
    rw [htunnel]
    exact tunnel_ext rfl (by simp only [u]; rw [htravelled]) (by simp only [u]; rw [htravelled])
  · rw [houtbox, hw]
  · rw [houtbox]
    rfl
  · rw [Raised] at hraised ⊢
    rw [hraised, show u.belt.odometer = s.belt.odometer + 1 from travelled_odometer s]
    have halert : alert u .exitMissing = alert s .exitMissing := by
      rw [alert, alert, show u.sup.alerts = s.sup.alerts by simp only [u]; rw [htravelled]]
    rw [halert]
  · have hm := hwashed' m
    rw [hrows m] at hm
    rw [hm, hw]
  · rw [hqstage]
    simp [u, hstage']
  · rw [hqreturns]
    simp [u]
    rw [htravelled]
  · apply state_ext <;> simp [hqstage]
    all_goals simp [u]
    all_goals rw [htravelled]

end Sys2Proof.Proofs
end

section
/-! PROOFS. A forward pulse that completes millimetres (sections 1.1 and 1.2): what its travel events leave alone, and
what they may take off the en-route list. -/

namespace Sys2Proof.Proofs

open Sys2Proof.Machine Sys2Proof.Laws

/-! ## The rack at the stop comes off the en-route list -/

/-- An en-route list after it has given up the rack named, or no rack (log entries 21 and 22). -/
def GivesUp (rack : Option Rack) (before after : List EnRoute) : Prop :=
  after = before ∨ ∃ n, rack = some n ∧ after = before.filter fun e => e.rack != some n

theorem GivesUp.trans {rack : Option Rack} {a b c : List EnRoute} (h : GivesUp rack a b) (h' : GivesUp rack b c) :
    GivesUp rack a c := by
  rcases h' with rfl | ⟨n, hn, rfl⟩
  · exact h
  · rcases h with rfl | ⟨m, hm, rfl⟩
    · exact .inr ⟨n, hn, rfl⟩
    · obtain rfl : n = m := Option.some.inj (hn.symm.trans hm)
      exact .inr ⟨n, hn, by simp [List.filter_filter]⟩

theorem removeEnRouteOf_givesUp (s : State) (rack : Option Rack) :
    GivesUp rack s.returns.enRoute (removeEnRouteOf s rack).returns.enRoute := by
  cases rack with
  | none => exact .inl rfl
  | some n => exact .inr ⟨n, rfl, rfl⟩

theorem autoEnrol_givesUp (s : State) (o : ReadOutcome) :
    GivesUp o.rack? s.returns.enRoute (autoEnrol s o).returns.enRoute := by
  cases o with
  | unread => exact .inl rfl
  | read n =>
    simp only [autoEnrol]
    split
    · exact .inr ⟨n, rfl, rfl⟩
    · exact .inl rfl

theorem admitRack_givesUp (s : State) (o : ReadOutcome) :
    GivesUp o.rack? s.returns.enRoute (admitRack s o).returns.enRoute := by
  have hroute : (admitRack s o).returns.enRoute
      = (removeEnRouteOf (setStage s (.admitting (pendingOf s o) 0 none)) o.rack?).returns.enRoute := by
    simp [admitRack]
  rw [hroute]
  exact removeEnRouteOf_givesUp (setStage s _) o.rack?

/-- A decision leaves its rack, or none, at the stop, and takes no other off the en-route list. -/
theorem decideAdmission_givesUp (s : State) (o : ReadOutcome) :
    (rackAtStop (decideAdmission s o).stage = o.rack? ∨ rackAtStop (decideAdmission s o).stage = none)
      ∧ GivesUp o.rack? s.returns.enRoute (decideAdmission s o).returns.enRoute := by
  rcases decideAdmission_cases s o with ⟨-, h⟩ | ⟨r, -, h⟩
  · rw [h]
    refine ⟨.inr ?_, (autoEnrol_givesUp s o).trans (admitRack_givesUp _ o)⟩
    rw [(admit_stage _ o).1]
    rfl
  · have hstage : (decideAdmission s o).stage = .waiting r o := by rw [h]; split <;> rfl
    have hroute : (decideAdmission s o).returns.enRoute = (autoEnrol s o).returns.enRoute := by
      rw [h]; split <;> rfl
    rw [hstage, hroute]
    exact ⟨.inl rfl, autoEnrol_givesUp s o⟩

/-! ## The parts of a travel event -/

/-- What each part of a travel event keeps of the rack at the stop and of the en-route list. -/
structure KeepsStop (s t : State) : Prop where
  stop    : rackAtStop t.stage = rackAtStop s.stage ∨ rackAtStop t.stage = none
  enRoute : GivesUp (rackAtStop s.stage) s.returns.enRoute t.returns.enRoute

theorem KeepsStop.of_same {s t : State} (hstage : rackAtStop t.stage = rackAtStop s.stage)
    (hroute : t.returns.enRoute = s.returns.enRoute) : KeepsStop s t :=
  ⟨.inl hstage, .inl hroute⟩

theorem KeepsStop.trans {s t u : State} (h : KeepsStop s t) (h' : KeepsStop t u) : KeepsStop s u := by
  obtain ⟨hstop, hroute⟩ := h
  obtain ⟨hstop', hroute'⟩ := h'
  rcases hstop with hsame | hnone
  · rw [hsame] at hstop' hroute'
    exact ⟨hstop', hroute.trans hroute'⟩
  · rw [hnone] at hstop' hroute'
    refine ⟨.inr (hstop'.elim id id), ?_⟩
    rcases hroute' with hkept | ⟨n, hn, -⟩
    · rw [hkept]
      exact hroute
    · cases hn

theorem reevaluate_keepsStop (s : State) : KeepsStop s (reevaluate s) := by
  cases hstage : s.stage with
  | waiting r o =>
    by_cases hpermanent : r.permanent = true
    · simp only [reevaluate, hstage, hpermanent, if_true]
      exact .of_same rfl rfl
    · simp only [reevaluate, hstage, hpermanent]
      obtain ⟨hstop, hroute⟩ := decideAdmission_givesUp s o
      exact ⟨by rw [hstage]; exact hstop, by rw [hstage]; exact hroute⟩
  | empty => simp only [reevaluate, hstage]; exact .of_same rfl rfl
  | reading => simp only [reevaluate, hstage]; exact .of_same rfl rfl
  | admitting p n held => simp only [reevaluate, hstage]; exact .of_same rfl rfl

theorem drainTest_keepsStop (s : State) : KeepsStop s (drainTest s) := by
  rw [drainTest]
  split
  · exact (KeepsStop.of_same (by simp) (by simp)).trans (reevaluate_keepsStop _)
  · exact .of_same rfl rfl

theorem runOnTest_keepsStop (s : State) : KeepsStop s (runOnTest s) := by
  rw [runOnTest]
  split
  · exact (KeepsStop.of_same (by simp) (by simp)).trans (reevaluate_keepsStop _)
  · exact .of_same rfl rfl

theorem settle_keepsStop (s : State) : KeepsStop s (settle s) :=
  ((reevaluate_keepsStop s).trans (.of_same (by simp) (by simp))).trans
    ((drainTest_keepsStop _).trans (runOnTest_keepsStop _))

theorem resumeApproach_keepsStop {s v : State} {p : Pending} {n : Nat} {held : Option ReadOutcome}
    (hstage : s.stage = .admitting p n held) (hroute : v.returns.enRoute = s.returns.enRoute) :
    KeepsStop s (resumeApproach v held) := by
  unfold resumeApproach
  split
  case isFalse => exact ⟨.inr rfl, .inl hroute⟩
  case isTrue =>
    cases held with
    | none =>
      have hreading : (requestRead (setStage v .reading) .entry).stage = .reading := by simp [setStage]
      exact ⟨.inr (congrArg rackAtStop hreading), .inl (by simpa using hroute)⟩
    | some o =>
      obtain ⟨hstop, hgives⟩ := decideAdmission_givesUp (setStage v .reading) o
      rw [setStage_returns, hroute] at hgives
      exact ⟨by rw [hstage]; exact hstop, by rw [hstage]; exact hgives⟩

/-- A lapse decides the held outcome, if the approach eye is still blocked, and takes no other rack off (R39). -/
theorem lapseStep_keepsStop (s : State) : KeepsStop s (lapseStep s) := by
  cases hstage : s.stage with
  | admitting p n held =>
    simp only [lapseStep, hstage]
    split
    case isFalse => exact .of_same (by rw [hstage]; cases held <;> rfl) rfl
    case isTrue =>
      let v := setPlaceOf (raise (setStage s .reading) .entryMiss p.rack) p.rack .unseen
      have hends : endPending (setStage s (.admitting p (n + 1) held)) = resumeApproach v held := rfl
      have hroute : v.returns.enRoute = s.returns.enRoute := by simp [v]
      rw [hends]
      exact resumeApproach_keepsStop hstage hroute
  | empty => simp only [lapseStep, hstage]; exact .of_same rfl rfl
  | reading => simp only [lapseStep, hstage]; exact .of_same rfl rfl
  | waiting r o => simp only [lapseStep, hstage]; exact .of_same rfl rfl

theorem travelEvent_keepsStop (s : State) : KeepsStop s (travelEvent s) := by
  have hlapse := lapseStep_keepsStop (runOnStep (advanceOdometer s))
  have hbefore : KeepsStop s (runOnStep (advanceOdometer s)) := .of_same (by simp) (by simp)
  have hclose : KeepsStop (lapseStep (runOnStep (advanceOdometer s)))
      (closeOverdue (lapseStep (runOnStep (advanceOdometer s)))) := .of_same (by simp) (by simp)
  exact ((hbefore.trans hlapse).trans hclose).trans (settle_keepsStop _)

/-! ## What a travel event writes -/

/-- The odometer and the reverse count at a travel event (R3, R5). -/
theorem travelEvent_belt (s : State) :
    (travelEvent s).belt.odometer = s.belt.odometer + 1
      ∧ (travelEvent s).belt.forwardAcc = s.belt.forwardAcc
      ∧ (travelEvent s).belt.reverseAcc = 0 ∧ (travelEvent s).belt.reverseCount = 0 := by
  simp [travelEvent, advanceOdometer]

/-- Settles O5. -/
theorem forwardPulseAdvancesTheOdometer : Obligations.ForwardPulseAdvancesTheOdometer := by
  intro s hepm hacc hfull
  have hle : pulseTravels s ≤ 2 := by
    refine Nat.le_of_lt_succ ((Nat.div_lt_iff_lt_mul (by omega)).mpr ?_)
    omega
  have hpos : 1 ≤ pulseTravels s := (Nat.le_div_iff_mul_le (by omega)).mpr (by omega)
  let c := forwardCount s
  let u := travelEvent c
  refine ⟨hle, travelEvents c (pulseTravels s), exec_forwardPulse s, ?_⟩
  obtain ⟨hodometer, hforward, hacc, hcount⟩ := travelEvent_belt c
  have hkeeps : KeepsStop c u := travelEvent_keepsStop c
  obtain hone | htwo : pulseTravels s = 1 ∨ pulseTravels s = 2 := by omega
  · have htravels : travelEvents c 1 = u := rfl
    rw [hone, htravels]
    refine ⟨hodometer, hforward, hacc, hcount, hkeeps.enRoute, by simp [u, c]; rfl, by simp [u, c]; rfl, ?_⟩
    apply state_ext <;> simp [u] <;> rfl
  · have htravels : travelEvents c 2 = travelEvent u := rfl
    obtain ⟨hodometer', hforward', hacc', hcount'⟩ := travelEvent_belt u
    rw [htwo, htravels]
    refine ⟨?_, hforward'.trans hforward, hacc', hcount', (hkeeps.trans (travelEvent_keepsStop u)).enRoute,
      by simp [u, c]; rfl, by simp [u, c]; rfl, ?_⟩
    · rw [hodometer', show u.belt.odometer = s.belt.odometer + 1 from hodometer, BitVec.add_assoc]
      rfl
    · apply state_ext <;> simp [u] <;> rfl

end Sys2Proof.Proofs
end

section
/-! PROOFS. The sample events (sections 5.1 to 5.6): accrual, the RINSE and WASH causes, the line mode and the speed
demand. -/

namespace Sys2Proof.Proofs

open Sys2Proof.Machine Sys2Proof.Laws

/-! ## The end of a poll -/

/-- The card with another head being polled (R71). -/
def polling (s : State) (period : Nat) (p : PollPhase) : State :=
  { s with rinse := { s.rinse with cycle := .started period p } }

theorem endPoll_rinse {s : State} {period : Nat} (h : s.rinse.cycle = .started period .rinse) (v : Option Nat) :
    endPoll s v = settle (rinseSample (polling s period .wash) v) := by
  simp only [endPoll, pollPhase, setPhase, h]
  rfl

theorem endPoll_wash {s : State} {period : Nat} (h : s.rinse.cycle = .started period .wash) (v : Option Nat) :
    endPoll s v = settle (washSample (polling s period .quiet) v) := by
  simp only [endPoll, pollPhase, setPhase, h]
  rfl

/-- An answer that echoes the head polled ends the poll with its sample (R72). -/
theorem exec_probeAnswer {s : State} {letter : Byte} (h : headLetter (pollPhase s) = some letter) (rest : List Byte) :
    exec (.probeAnswer (letter :: rest)) s = .next (endPoll s (answerSample (letter :: rest))) := by
  change execProbeAnswer _ s = _
  simp only [execProbeAnswer, h, if_true]

theorem exec_probeAnswer_other {s : State} {letter : Byte} {bytes : List Byte}
    (h : headLetter (pollPhase s) = some letter) (hother : bytes.head? ≠ some letter) :
    exec (.probeAnswer bytes) s = .next s := by
  change execProbeAnswer _ s = _
  cases bytes with
  | nil => simp only [execProbeAnswer, h]
  | cons b rest =>
    have hb : b ≠ letter := fun heq => hother (congrArg some heq)
    simp only [execProbeAnswer, h, if_neg hb]

theorem answerSample_good {b hi lo check : Byte} (hsum : b + hi + lo + check = 0)
    (hrange : 256 * hi.toNat + lo.toNat ≤ 1200) :
    answerSample [b, hi, lo, check] = some (256 * hi.toNat + lo.toNat) := if_pos ⟨hsum, hrange⟩

/-! ## The heads and the causes (R73, R74, R83, R84) -/

theorem rinseHeadEvent_rinse (s : State) (v : Option Nat) :
    (rinseHeadEvent s v).rinse = { s.rinse with
      rinse := { headSampled s.rinse.rinse v with cause := rinseCauseAfter s.settings s.rinse.rinse v } } := by
  simp only [rinseHeadEvent]
  split <;> simp

theorem washHeadEvent_rinse (s : State) (v : Option Nat) :
    (washHeadEvent s v).rinse = { s.rinse with
      wash := { headSampled s.rinse.wash v with cause := washCauseAfter s.settings s.rinse.wash v } } := by
  simp only [washHeadEvent]
  split <;> simp

theorem rinseSample_rinse (s : State) (v : Option Nat) :
    (rinseSample s v).rinse = { s.rinse with
      rinse := { headSampled s.rinse.rinse v with cause := rinseCauseAfter s.settings s.rinse.rinse v } } := by
  simp only [rinseSample]
  split <;> simp [rinseHeadEvent_rinse]

theorem washSample_rinse (s : State) (v : Option Nat) :
    (washSample s v).rinse = { s.rinse with
      wash := { headSampled s.rinse.wash v with cause := washCauseAfter s.settings s.rinse.wash v } } := by
  simp [washSample, washHeadEvent_rinse]

/-! ## What the line does at a sample -/

theorem rinseAccrual_tunnel {s t : State} (v : Option Nat) (hodometer : t.belt.odometer = s.belt.odometer)
    (hsettings : t.settings = s.settings) (hcycle : t.rinse.cycle = s.rinse.cycle) (htunnel : t.tunnel = s.tunnel) :
    (rinseAccrual t v).tunnel = (rinseAccrual s v).tunnel := by
  have hfinal : inFinal t = inFinal s := by
    funext r
    simp only [inFinal, travel, par, hodometer, hsettings]
  have hk : periodK t = periodK s := by simp only [periodK, hcycle]
  cases v with
  | none => simp only [rinseAccrual, flagRecords, hfinal, htunnel]
  | some T => simp only [rinseAccrual, hfinal, hk, hsettings, htunnel]

theorem washAccrual_tunnel {s t : State} (v : Option Nat) (hodometer : t.belt.odometer = s.belt.odometer)
    (hsettings : t.settings = s.settings) (hcycle : t.rinse.cycle = s.rinse.cycle) (htunnel : t.tunnel = s.tunnel) :
    (washAccrual t v).tunnel = (washAccrual s v).tunnel := by
  have hwash : inWash t = inWash s := by
    funext r
    simp only [inWash, travel, par, hodometer, hsettings]
  have hk : periodK t = periodK s := by simp only [periodK, hcycle]
  have hfloor : par t .wfloor = par s .wfloor := by rw [par, hsettings, par]
  cases v with
  | none => exact htunnel
  | some T => 
    simp only [washAccrual, hfloor]
    split <;> simp only [hwash, hk, htunnel]

theorem washAccrual_hot {s : State} {T : Nat} (h : par s .wfloor ≤ T) :
    (washAccrual s (some T)).tunnel =
      { s.tunnel with list := s.tunnel.list.map fun r => if inWash s r then washed (periodK s) r else r } := by
  simp only [washAccrual, if_pos h]

theorem washAccrual_cold {s : State} {T : Nat} (h : ¬ par s .wfloor ≤ T) : washAccrual s (some T) = s := by
  simp only [washAccrual, if_neg h]

theorem rinseSample_tunnel (s : State) (v : Option Nat) :
    (rinseSample s v).tunnel = if s.pacing.beltRun then (rinseAccrual s v).tunnel else s.tunnel := by
  have haccrual : (rinseAccrual (rinseHeadEvent s v) v).tunnel = (rinseAccrual s v).tunnel :=
    rinseAccrual_tunnel v (by simp) (by simp) (by simp) (by simp)
  simp only [rinseSample, lineAtRinseSample_frame, demandAtSample_frame]
  split
  · exact haccrual
  · simp

theorem washSample_tunnel (s : State) (v : Option Nat) : (washSample s v).tunnel = (washAccrual s v).tunnel := by
  have haccrual : (washAccrual (washHeadEvent s v) v).tunnel = (washAccrual s v).tunnel :=
    washAccrual_tunnel v (by simp) (by simp) (by simp) (by simp)
  simp only [washSample, lineAtWashSample_frame, haccrual]

/-! ## The mode and the demand -/

theorem reevaluate_keepsMode {s : State} (hparked : s.sup.mode ≠ .parked) :
    (reevaluate s).sup.mode = s.sup.mode := by
  cases hstage : s.stage with
  | waiting r o =>
    simp only [reevaluate, hstage]
    split
    case isTrue => rfl
    case isFalse =>
      rcases decideAdmission_cases s o with ⟨-, h⟩ | ⟨r, -, h⟩
      · rw [h, (admit_stage _ o).2.2]
        simp [hparked]
      · rw [h]
        split <;> simp
  | empty => simp only [reevaluate, hstage]
  | reading => simp only [reevaluate, hstage]
  | admitting p n held => simp only [reevaluate, hstage]

/-- A line in neither RUN nor PARKED keeps its mode as an event is settled (R160 to R162). -/
theorem settle_keepsMode {s : State} (hrun : s.sup.mode ≠ .run) (hparked : s.sup.mode ≠ .parked) :
    (settle s).sup.mode = s.sup.mode := by
  have hkept : (runOnWhileOccupied (reevaluate s)).sup.mode = s.sup.mode := by
    rw [← reevaluate_keepsMode hparked]
    simp
  have hdrain : drainTest (runOnWhileOccupied (reevaluate s)) = runOnWhileOccupied (reevaluate s) :=
    if_neg (by rw [drainEnds, hkept]; simp [hrun])
  rw [settle, hdrain, runOnTest, if_neg (by rw [runOnEnds, hkept]; simp [hrun]), hkept]

theorem lineAtRinseSample_warming {s : State} (h : s.sup.mode = .warming) (T : Nat) (fault : Bool) :
    lineAtRinseSample s (some T) fault =
      if par s .tready ≤ T ∧ washHot s = true ∧ lineEmpty s = true then changeMode s .parked else s := by
  simp only [lineAtRinseSample, h]

theorem lineAtRinseSample_parked {s : State} (h : s.sup.mode = .parked) (T : Nat) (fault : Bool) :
    lineAtRinseSample s (some T) fault = if T < par s .tresume then changeMode s .warming else s := by
  simp only [lineAtRinseSample, h]

theorem lineAtRinseSample_fault {s : State} (h : s.sup.mode = .parked) :
    lineAtRinseSample s none true = changeMode s .warming := by
  simp only [lineAtRinseSample, h, if_true]

theorem lineAtWashSample_fault {s : State} (h : s.sup.mode = .parked) :
    lineAtWashSample s none true = changeMode s .warming := by
  simp only [lineAtWashSample, h, if_true]

theorem lineAtWashSample_parked {s : State} (h : s.sup.mode = .parked) (T : Nat) (fault : Bool) :
    lineAtWashSample s (some T) fault = if T < par s .wfloor then changeMode s .warming else s := by
  simp only [lineAtWashSample, h]

theorem lineAtWashSample_other {s : State} (h : s.sup.mode ≠ .parked) (v : Option Nat) (fault : Bool) :
    lineAtWashSample s v fault = s := by
  unfold lineAtWashSample
  split
  case h_3 => rfl
  all_goals contradiction

theorem lineAtRinseSample_runFollows {s : State} (h : RunFollows s) (v : Option Nat) (fault : Bool) :
    RunFollows (lineAtRinseSample s v fault) := by
  unfold lineAtRinseSample
  split
  case h_4 => exact h
  all_goals
    split
    · exact changeMode_runFollows _ _
    · exact h

theorem lineAtWashSample_runFollows {s : State} (h : RunFollows s) (v : Option Nat) (fault : Bool) :
    RunFollows (lineAtWashSample s v fault) := by
  unfold lineAtWashSample
  split
  case h_3 => exact h
  all_goals
    split
    · exact changeMode_runFollows _ _
    · exact h

theorem rinseSample_runFollows (s : State) (v : Option Nat) : RunFollows (rinseSample s v) := by
  have hhead : RunFollows (rinseHeadEvent s v) := holdsChanged_runFollows _ _
  refine lineAtRinseSample_runFollows ?_ _ _
  have haccrual : RunFollows (if s.pacing.beltRun then rinseAccrual (rinseHeadEvent s v) v else rinseHeadEvent s v) := by
    split
    · exact hhead.of_same (by simp) (by simp) (by simp)
    · exact hhead
  unfold RunFollows beltShouldRun holdSetEmpty at haccrual ⊢
  simpa using haccrual

theorem washSample_runFollows (s : State) (v : Option Nat) : RunFollows (washSample s v) := by
  have hhead : RunFollows (washHeadEvent s v) := holdsChanged_runFollows _ _
  exact lineAtWashSample_runFollows (hhead.of_same (by simp) (by simp) (by simp)) _ _

/-! ## Probe faults -/

theorem rinseSample_raised {s : State} (h : s.rinse.rinse.consecutive = 2) :
    Raised s (rinseSample s none) .rinseProbe s.belt.odometer none := by
  have hraised := raise_raised s .rinseProbe none
  have hfault : isProbeFault s.rinse.rinse none = true := by simp [isProbeFault, h]
  rw [Raised] at hraised ⊢
  rw [← hraised, alert, alert]
  simp only [rinseSample, lineAtRinseSample_frame, demandAtSample_frame]
  split <;> simp [rinseHeadEvent, hfault]

theorem washSample_raised {s : State} (h : s.rinse.wash.consecutive = 2) :
    Raised s (washSample s none) .washProbe s.belt.odometer none := by
  have hraised := raise_raised s .washProbe none
  have hfault : isProbeFault s.rinse.wash none = true := by simp [isProbeFault, h]
  rw [Raised] at hraised ⊢
  rw [← hraised, alert, alert]
  simp [washSample, washHeadEvent, hfault]

theorem settle_warming {s : State} (h : s.sup.mode = .warming) : (settle s).sup.mode = .warming := by
  rw [settle_keepsMode (by rw [h]; decide) (by rw [h]; decide), h]

/-- The line at the end of a rinse sample event is judged with the mode, the wash head and the lists it had (R159). -/
theorem rinseSample_line (s : State) (v : Option Nat) :
    ∃ w, rinseSample s v = lineAtRinseSample w v (isProbeFault s.rinse.rinse v) ∧ w.sup.mode = s.sup.mode
      ∧ w.settings = s.settings ∧ washHot w = washHot s ∧ lineEmpty w = lineEmpty s := by
  refine ⟨_, rfl, ?_, ?_, ?_, ?_⟩
  · split <;> simp
  · split <;> simp
  · have hlatest : ∀ w : State, w.rinse.wash = s.rinse.wash → w.settings = s.settings → washHot w = washHot s := by
      intro w hwash hsettings
      rw [washHot, hwash, washHot, par, hsettings, par]
    refine hlatest _ ?_ ?_ <;> split <;> simp [rinseHeadEvent_rinse]
  · split
    case isFalse => simp [lineEmpty]
    case isTrue => cases v <;> simp [lineEmpty, rinseAccrual, flagRecords]

/-- Settles O32. -/
theorem thirdInvalidSampleIsAProbeFault : Obligations.ThirdInvalidSampleIsAProbeFault := by
  refine ⟨fun s period hcycle hcount => ?_, fun s period hcycle hcount => ?_⟩
  · let b := polling s period .wash
    have hexec : exec .probeWaitExpiry s = .next (settle (rinseSample b none)) :=
      congrArg Host.Outcome.next (endPoll_rinse hcycle none)
    have hfault : isProbeFault b.rinse.rinse none = true := by simp [isProbeFault, b, polling, hcount]
    have hrinse : (settle (rinseSample b none)).rinse =
        { cycle := .started period .wash
          rinse := { latest := .invalid, consecutive := 3, total := min 65535 (s.rinse.rinse.total + 1),
                     cause := some .probe }
          wash := s.rinse.wash } := by
      have hcause : rinseCauseAfter b.settings b.rinse.rinse none = some .probe := if_pos hfault
      have hcount' : b.rinse.rinse.consecutive = 2 := hcount
      rw [(by simp : (settle (rinseSample b none)).rinse = (rinseSample b none).rinse), rinseSample_rinse, hcause]
      simp only [headSampled, hcount']
      rfl
    have hheld : holdSetEmpty (settle (rinseSample b none)) = false := by
      simp only [holdSetEmpty, hrinse]
      rfl
    refine ⟨_, hexec, raised_settle (rinseSample_raised hcount) (by decide), hrinse,
      (settle_runFollows (rinseSample_runFollows b none)).stands hheld, fun hparked => ?_, ?_, ?_⟩
    · obtain ⟨w, hw, hmode, -⟩ := rinseSample_line b none
      refine settle_warming ?_
      rw [hw, hfault, lineAtRinseSample_fault (hmode.trans hparked), changeMode_sup]
    · rw [(by simp : (settle (rinseSample b none)).tunnel = (rinseSample b none).tunnel), rinseSample_tunnel]
      rfl
    · apply state_ext <;> simp <;> rfl
  · let b := polling s period .quiet
    have hexec : exec .probeWaitExpiry s = .next (settle (washSample b none)) :=
      congrArg Host.Outcome.next (endPoll_wash hcycle none)
    have hfault : isProbeFault b.rinse.wash none = true := by simp [isProbeFault, b, polling, hcount]
    have hrinse : (settle (washSample b none)).rinse =
        { cycle := .started period .quiet
          rinse := s.rinse.rinse
          wash := { latest := .invalid, consecutive := 3, total := min 65535 (s.rinse.wash.total + 1),
                    cause := some .probe } } := by
      have hcause : washCauseAfter b.settings b.rinse.wash none = some .probe := if_pos hfault
      have hcount' : b.rinse.wash.consecutive = 2 := hcount
      rw [(by simp : (settle (washSample b none)).rinse = (washSample b none).rinse), washSample_rinse, hcause]
      simp only [headSampled, hcount']
      rfl
    have hheld : holdSetEmpty (settle (washSample b none)) = false := by
      simp only [holdSetEmpty, hrinse]
      simp
    refine ⟨_, hexec, raised_settle (washSample_raised hcount) (by decide), hrinse,
      (settle_runFollows (washSample_runFollows b none)).stands hheld, fun hparked => ?_, ?_⟩
    · refine settle_warming ?_
      rw [washSample, hfault, lineAtWashSample_fault (by simp; exact hparked), changeMode_sup]
    · apply state_ext
      case tunnel =>
        rw [(by simp : (settle (washSample b none)).tunnel = (washSample b none).tunnel), washSample_tunnel]
        rfl
      all_goals simp
      all_goals rfl

/-- Settles O33. -/
theorem washSampleAccrues : Obligations.WashSampleAccrues := by
  intro s period hi lo check hcycle hsum hrange
  let b := polling s period .quiet
  let T := 256 * hi.toNat + lo.toNat
  have hletter : headLetter (pollPhase s) = some 0x57 := by simp only [pollPhase, hcycle]; rfl
  have hexec : exec (.probeAnswer [0x57, hi, lo, check]) s = .next (settle (washSample b (some T))) := by
    rw [exec_probeAnswer hletter, answerSample_good hsum hrange, endPoll_wash hcycle]
  refine ⟨_, T, hexec, rfl, ?_, ?_, fun hparked hnobody => ?_, fun hwarming => ?_, ?_⟩
  · rw [(by simp : (settle (washSample b (some T))).rinse = (washSample b (some T)).rinse), washSample_rinse]
    have hcause : washCauseAfter b.settings b.rinse.wash (some T) =
        if par s .wresume ≤ T then none
        else if T < par s .wfloor then some .temperature
        else if s.rinse.wash.cause.isSome then some .temperature
        else none := by
      simp only [washCauseAfter, ite_or]
      rfl
    rw [hcause]
    rfl
  · rw [(by simp : (settle (washSample b (some T))).tunnel = (washSample b (some T)).tunnel), washSample_tunnel]
    by_cases hhot : par s .wfloor ≤ T
    · rw [if_pos hhot, washAccrual_hot (s := b) hhot]
      rfl
    · rw [if_neg hhot, washAccrual_cold (s := b) hhot]
      rfl
  · have hline : washSample b (some T) = _ := lineAtWashSample_parked (by simp; exact hparked) T _
    have hfloor : par (washAccrual (washHeadEvent b (some T)) (some T)) .wfloor = par s .wfloor := by simp [par]; rfl
    have hmode : (washSample b (some T)).sup.mode = if T < par s .wfloor then .warming else .parked := by
      rw [hline, hfloor]
      split
      · rw [changeMode_sup]
      · simp
        exact hparked
    have hstays : (washSample b (some T)).sup.mode ≠ .run := by rw [hmode]; split <;> decide
    rw [settle_mode (nobodyWaits_of_stage hnobody (by simp; rfl)) hstays, hmode]
  · refine settle_warming ?_
    have hmode : (washAccrual (washHeadEvent b (some T)) (some T)).sup.mode = .warming := by simp; exact hwarming
    rw [washSample, lineAtWashSample_other (by rw [hmode]; decide), hmode]
  · apply state_ext <;> simp <;> rfl

/-- The speed demand of a sample in RUN (R81). -/
theorem rinseSample_speedDemand (s : State) (T : Nat) :
    (rinseSample s (some T)).pacing.speedDemand
      = if s.sup.mode = .run then demandFor s.settings T else s.pacing.speedDemand := by
  have hdemand : ∀ u : State, u.sup.mode = s.sup.mode → u.settings = s.settings →
      u.pacing.speedDemand = s.pacing.speedDemand → (demandAtSample u (some T)).pacing.speedDemand
        = if s.sup.mode = .run then demandFor s.settings T else s.pacing.speedDemand := by
    intro u hmode hsettings hspeed
    simp only [demandAtSample, hmode, hsettings]
    split
    · rfl
    · exact hspeed
  simp only [rinseSample, lineAtRinseSample_frame]
  refine hdemand _ ?_ ?_ ?_ <;> split <;> simp

/-- Settles O31. -/
theorem rinseSampleAccruesAndSetsTheSpeed : Obligations.RinseSampleAccruesAndSetsTheSpeed := by
  intro s period hcycle
  have hletter : headLetter (pollPhase s) = some 0x52 := by simp only [pollPhase, hcycle]; rfl
  refine ⟨fun hi lo check hsum hrange => ?_, fun bytes hother => exec_probeAnswer_other hletter hother⟩
  let b := polling s period .wash
  let T := 256 * hi.toNat + lo.toNat
  have hexec : exec (.probeAnswer [0x52, hi, lo, check]) s = .next (settle (rinseSample b (some T))) := by
    rw [exec_probeAnswer hletter, answerSample_good hsum hrange, endPoll_rinse hcycle]
  obtain ⟨w, hline, hmode, hsettings, hhot, hempty⟩ := rinseSample_line b (some T)
  have hnobody' : nobodyWaits s = true → nobodyWaits (rinseSample b (some T)) = true :=
    fun hnobody => nobodyWaits_of_stage hnobody (by simp; rfl)
  have hpar : ∀ p, par w p = par s p := fun p => by rw [par, hsettings]; rfl
  refine ⟨_, T, hexec, rfl, ?_, ?_, fun hparked hnobody => ?_, fun hwarming hnobody => ?_, ?_, ?_⟩
  · rw [(by simp : (settle (rinseSample b (some T))).rinse = (rinseSample b (some T)).rinse), rinseSample_rinse]
    have hcause : rinseCauseAfter b.settings b.rinse.rinse (some T) =
        if credit s.settings T = 0 then some .temperature
        else if par s .tresume ≤ T then none
        else if s.rinse.rinse.cause.isSome then some .temperature
        else none := by
      have hunfold : rinseCauseAfter b.settings b.rinse.rinse (some T) =
          if par s .tresume ≤ T ∧ credit s.settings T ≠ 0 then none
          else if credit s.settings T = 0 ∨ s.rinse.rinse.cause.isSome then some .temperature
          else none := rfl
      rw [hunfold]
      by_cases hcredit : credit s.settings T = 0
      · rw [if_neg fun h => h.2 hcredit, if_pos (.inl hcredit), if_pos hcredit]
      · simp only [hcredit, ne_eq, not_false_eq_true, and_true, false_or, if_false]
    rw [hcause]
    rfl
  · rw [(by simp : (settle (rinseSample b (some T))).pacing.speedDemand = (rinseSample b (some T)).pacing.speedDemand),
      rinseSample_speedDemand]
    rfl
  · have hmode' : (rinseSample b (some T)).sup.mode = if T < par s .tresume then .warming else .parked := by
      rw [hline, lineAtRinseSample_parked (hmode.trans hparked), hpar]
      split
      · rw [changeMode_sup]
      · exact hmode.trans hparked
    have hstays : (rinseSample b (some T)).sup.mode ≠ .run := by rw [hmode']; split <;> decide
    rw [settle_mode (hnobody' hnobody) hstays, hmode']
  · have hmode' : (rinseSample b (some T)).sup.mode =
        if par s .tready ≤ T ∧ washHot s = true ∧ lineEmpty s = true then .parked else .warming := by
      rw [hline, lineAtRinseSample_warming (hmode.trans hwarming), hpar, hhot, hempty]
      refine (apply_ite (fun u : State => u.sup.mode) _ _ _).trans (if_congr Iff.rfl ?_ (hmode.trans hwarming))
      rw [changeMode_sup]
    have hstays : (rinseSample b (some T)).sup.mode ≠ .run := by rw [hmode']; split <;> decide
    rw [settle_mode (hnobody' hnobody) hstays, hmode']
    refine ⟨fun W hW => ?_, fun hcold => ?_⟩
    · simp only [washHot, hW, decide_eq_true_eq]
    · refine if_neg fun h => ?_
      have hwash := h.2.1
      rw [washHot] at hwash
      split at hwash
      case h_1 W hW => exact hcold W hW
      all_goals cases hwash
  · rw [(by simp : (settle (rinseSample b (some T))).tunnel = (rinseSample b (some T)).tunnel), rinseSample_tunnel]
    refine if_congr Iff.rfl (tunnel_ext (List.map_congr_left fun r _ => if_congr Iff.rfl ?_ rfl) rfl rfl) rfl
    simp only [rinsed, lowerMinimum]
    cases r.minRinse <;> rfl
  · apply state_ext <;> simp <;> rfl

end Sys2Proof.Proofs
end

section
/-! PROOFS. The return gate (section 9.3): the round-robin target and the entry that joins the list. -/

namespace Sys2Proof.Proofs

open Sys2Proof.Machine Sys2Proof.Laws

/-! ## The round robin (R138) -/

/-- The first station after a pointer that a test picks, counted from the pointer. -/
theorem find_stationsAfter {f : Station → Bool} {p : Station} {d : Fin 4} (hd : f (p + 1 + d) = true)
    (hbefore : ∀ j : Fin 4, j < d → f (p + 1 + j) = false) : (stationsAfter p).find? f = some (p + 1 + d) := by
  have hcycle : ∀ p : Station, stationsAfter p = [p + 1 + 0, p + 1 + 1, p + 1 + 2, p + 1 + 3] := by decide
  rw [hcycle]
  match d with
  | 0 => rw [List.find?_cons_of_pos hd]
  | 1 => rw [List.find?_cons_of_neg (Bool.eq_false_iff.mp (hbefore 0 (by decide))), List.find?_cons_of_pos hd]
  | 2 =>
    rw [List.find?_cons_of_neg (Bool.eq_false_iff.mp (hbefore 0 (by decide))), List.find?_cons_of_neg (Bool.eq_false_iff.mp (hbefore 1 (by decide))),
      List.find?_cons_of_pos hd]
  | 3 =>
    rw [List.find?_cons_of_neg (Bool.eq_false_iff.mp (hbefore 0 (by decide))), List.find?_cons_of_neg (Bool.eq_false_iff.mp (hbefore 1 (by decide))),
      List.find?_cons_of_neg (Bool.eq_false_iff.mp (hbefore 2 (by decide))), List.find?_cons_of_pos hd]

theorem find_stationsAfter_none {f : Station → Bool} (p : Station) (h : ∀ d : Fin 4, f d = false) :
    (stationsAfter p).find? f = none :=
  List.find?_eq_none.mpr fun d _ => by simp [h d]

theorem pointerOf_setPointer (p : Pointers) (c d : RackClass) (k : Station) :
    pointerOf (setPointer p c k) d = if c = d then k else pointerOf p d := by
  cases c <;> cases d <;> rfl

theorem occupancy_setRow_samePlace {s : State} {n : Rack} {w v : Row} (hrow : row s n = some w)
    (hplace : v.place = w.place) (m : Station) : occupancy (setRow s n (some v)) m = occupancy s m := by
  have hplaces : (setRow s n (some v)).registry.toList.map (Option.map Row.place)
      = s.registry.toList.map (Option.map Row.place) := by
    have hn : (s.registry.toList.map (Option.map Row.place))[n.val]'(by simp) = some v.place := by
      have hget : s.registry[n.val] = some w := hrow
      simp [hget, hplace]
    simp only [setRow, Vector.toList_set, List.map_set, Option.map_some]
    rw [← hn, List.set_getElem_self]
  have hcount : ∀ l : List (Option Row), l.countP (fun w => w.map Row.place == some (.atStation m))
      = (l.map (Option.map Row.place)).countP (· == some (.atStation m)) := fun l => by
    rw [List.countP_map]
    rfl
  rw [occupancy, occupancy, hcount, hcount, hplaces]
  rfl

/-- The rewash mark cleared at the gate is no part of the choice of a station. -/
theorem isCandidate_skipRewash {s : State} {n : Rack} {w : Row} (hrow : row s n = some w) (m : Station) :
    isCandidate (skipRewash s n w) n w.cls m = stationTakes s w m := by
  have hrow' : row (raise s .rewashSkipped (some n)) n = some w := hrow
  have hplace : placeOf (skipRewash s n w) n = some w.place := by
    rw [skipRewash]
    split <;> simp [placeOf, hrow]
  have hoccupancy : occupancy (skipRewash s n w) m = occupancy s m := by
    rw [skipRewash]
    split
    · exact occupancy_setRow_samePlace (v := { w with rewashDue := false }) hrow' rfl m
    · rfl
  have hstations : (skipRewash s n w).returns = s.returns := by simp
  simp only [isCandidate, occupancyWithout, hplace, hoccupancy, hstations, stationTakes, Option.some.injEq]
  split <;> rfl

/-! ## The entry that joins the list (R139) -/

/-- The entry of a rack as it joins the en-route list. -/
def newEntry (s : State) (rack : Option Rack) (target : Option Station) : EnRoute :=
  { rack := rack, target := target, lastEye := 0, deadline := par s .retleg * 10 }

theorem appendEnRoute_room {s : State} (h : s.returns.enRoute.length < 24) (rack : Option Rack)
    (target : Option Station) :
    appendEnRoute s rack target = setPlaceOf
      { s with returns := { s.returns with enRoute := s.returns.enRoute ++ [newEntry s rack target] } } rack .onReturn := by
  have hkept : dropOldest s = s := by
    unfold dropOldest
    split
    case h_1 => rfl
    case h_2 => exact if_neg (Nat.not_le.mpr h)
  rw [appendEnRoute, hkept]
  rfl

/-- What the entry that joins a list with room writes. -/
theorem appendEnRoute_changes {s : State} (h : s.returns.enRoute.length < 24) (rack : Option Rack)
    (target : Option Station) :
    OnlyPlaced s (appendEnRoute s rack target) rack .onReturn
      ∧ appendEnRoute s rack target = { s with
          registry := (appendEnRoute s rack target).registry
          returns := { s.returns with enRoute := s.returns.enRoute ++ [newEntry s rack target] } } := by
  rw [appendEnRoute_room h]
  exact ⟨setPlaceOf_onlyPlaced { s with returns := _ } rack .onReturn, setPlaceOf_eq _ rack .onReturn⟩

/-- A rack that no collection has is not given up at the return gate; a vacant one comes off the list (R137). -/
theorem claimAtReturn_free {s : State} {n : Rack} (h : ∀ w, row s n = some w →
      w.place ≠ .inTunnel ∧ w.place ≠ .atExit ∧ w.place ≠ .admitting ∧ w.place ≠ .onReturn) :
    claimAtReturn s n = if row s n = none then removeEnRoute s n else s := by
  cases hrow : row s n with
  | none => simp [claimAtReturn, placeOf, hrow]
  | some w =>
    obtain ⟨htunnel, hexit, hadmitting, hreturn⟩ := h w hrow
    unfold claimAtReturn
    cases hp : w.place <;> simp_all [placeOf]

theorem exec_returnRead {s : State} {a : Nat} (n : Rack) (hattempt : s.readers.ret.attempt = some a) (ha : a ≤ 3)
    (hplace : ∀ w, row s n = some w →
      w.place ≠ .inTunnel ∧ w.place ≠ .atExit ∧ w.place ≠ .admitting ∧ w.place ≠ .onReturn) :
    exec (.readerAnswer .ret (digitChar a :: tagText n)) s = .next (settle (dispatchRead
      (if row s n = none then removeEnRoute (abandonRead s .ret) n else abandonRead s .ret) n
      (placeOf s n == some .queued))) := by
  rw [exec_readerAnswer_tag (r := .ret) n hattempt ha]
  have hclaim := claimAtReturn_free (s := abandonRead s .ret) hplace
  simp only [deliverOutcome, returnOutcome, hclaim]
  rfl

/-- The mark that a rack carries into dispatch is cleared with REWASH_SKIPPED (R122, R138). -/
theorem skipRewash_changes {s : State} {n : Rack} {w : Row} (hrow : row s n = some w) :
    (∀ m, row (skipRewash s n w) m = if m = n then some { w with rewashDue := false } else row s m)
      ∧ (if w.rewashDue then Raised s (skipRewash s n w) .rewashSkipped s.belt.odometer (some n)
        else (skipRewash s n w).sup = s.sup)
      ∧ skipRewash s n w = { s with
          registry := (skipRewash s n w).registry
          sup := { s.sup with
            alerts := (skipRewash s n w).sup.alerts, alertOutput := (skipRewash s n w).sup.alertOutput } } := by
  by_cases hdue : w.rewashDue = true
  · have hskip : skipRewash s n w
        = setRow (raise s .rewashSkipped (some n)) n (some { w with rewashDue := false }) := if_pos hdue
    rw [hskip, if_pos hdue]
    refine ⟨fun m => ?_, raise_raised s .rewashSkipped (some n), rfl⟩
    rw [row_setRow]
    simp only [eq_comm]
    rfl
  · have hskip : skipRewash s n w = s := if_neg hdue
    rw [hskip, if_neg hdue]
    refine ⟨fun m => ?_, rfl, rfl⟩
    by_cases hm : m = n
    · have hw : w = { w with rewashDue := false } := by rw [← Bool.eq_false_iff.mpr hdue]
      rw [if_pos hm, hm, hrow, ← hw]
    · rw [if_neg hm]

/-- The pointer of the rack's class moves to the station chosen (R138). -/
theorem movePointer_changes (s : State) (c : RackClass) (target : Option Station) :
    (∀ k, target = some k → pointerOf (movePointer s c target).returns.pointers c = k)
      ∧ (target = none → (movePointer s c target).returns.pointers = s.returns.pointers)
      ∧ (∀ d, d ≠ c → pointerOf (movePointer s c target).returns.pointers d = pointerOf s.returns.pointers d)
      ∧ movePointer s c target = { s with
          returns := { s.returns with pointers := (movePointer s c target).returns.pointers } } := by
  cases target with
  | none => exact ⟨(fun _ h => by cases h), fun _ => rfl, fun _ _ => rfl, rfl⟩
  | some k =>
    refine ⟨fun j hj => ?_, (fun h => by cases h), fun d hd => ?_, rfl⟩
    · cases hj
      exact (pointerOf_setPointer s.returns.pointers c c k).trans (if_pos rfl)
    · exact (pointerOf_setPointer s.returns.pointers c d k).trans (if_neg (Ne.symm hd))

/-- Settles O36. -/
theorem returnReadDispatchesRoundRobin : Obligations.ReturnReadDispatchesRoundRobin := by
  refine ⟨fun s a n w _ ha hattempt hsettled hnobody hrow hretired htunnel hexit hadmitting hreturn hqueued hroom => ?_,
    fun s a n _ ha hattempt hsettled hnobody hwhich hplace hroom => ?_, fun s hattempt hsettled hnobody hroom => ?_,
    fun s e rest hattempt hsettled hnobody hlist hlength => ?_⟩
  · let b := abandonRead s .ret
    let k := skipRewash b n w
    let target := (stationsAfter (pointerOf s.returns.pointers w.cls)).find? (stationTakes s w)
    let v := movePointer k w.cls target
    let u := appendEnRoute v (some n) target
    obtain ⟨hrows, hmark, hskip⟩ := skipRewash_changes (s := b) hrow
    obtain ⟨hmoved, hkept, hothers, hv⟩ := movePointer_changes k w.cls target
    have hpointers : k.returns.pointers = s.returns.pointers := by simp [k]; rfl
    have hlist : v.returns.enRoute = s.returns.enRoute := by simp [v, k]; rfl
    have hentry : newEntry v (some n) target = newEntry s (some n) target := by simp [newEntry, par, v, k]; rfl
    obtain ⟨hplaced, hu⟩ := appendEnRoute_changes (s := v) (by rwa [hlist]) (some n) target
    have hexec : exec (.readerAnswer .ret (digitChar a :: tagText n)) s = .next (settle u) := by
      rw [exec_returnRead n hattempt ha fun w' hw' => by
        rw [hrow] at hw'
        cases hw'
        exact ⟨htunnel, hexit, hadmitting, hreturn⟩]
      have henrolled : row s n ≠ none := by rw [hrow]; simp
      have hplace : (placeOf s n == some .queued) = false := by simpa [placeOf, hrow] using hqueued
      have htarget : dispatchTarget (skipRewash (abandonRead s .ret) n w) n w.cls = target := by
        have hcandidate : isCandidate k n w.cls = stationTakes s w :=
          funext fun m => isCandidate_skipRewash (s := b) hrow m
        rw [dispatchTarget, show isCandidate (skipRewash (abandonRead s .ret) n w) n w.cls = _ from hcandidate,
          show (skipRewash (abandonRead s .ret) n w).returns.pointers = _ from hpointers]
      have hrow' : row (abandonRead s .ret) n = some w := hrow
      rw [if_neg henrolled, hplace, dispatchRead, if_neg (by decide)]
      simp only [hrow', hretired, htarget]
      rfl
    have hsettle : settle u = u := by
      refine settle_of_line hsettled (nobodyWaits_of_stage hnobody ?_) (lineEmpty_of_same ?_ ?_) ?_ ?_ ?_ ?_ ?_
      all_goals simp [u, v, k]
      all_goals rfl
    have hupointers : u.returns.pointers = v.returns.pointers := by simp [u]
    refine ⟨u, target, hexec.trans (by rw [hsettle]), fun d hd hbefore => ?_, fun hnone => ?_, fun c hc => ?_, ?_,
      fun m => ?_, ?_, ?_⟩
    · have htarget : target = some (pointerOf s.returns.pointers w.cls + 1 + d) := find_stationsAfter hd hbefore
      exact ⟨htarget, by rw [hupointers]; exact hmoved _ htarget⟩
    · have htarget : target = none := find_stationsAfter_none _ hnone
      exact ⟨htarget, hupointers.trans ((hkept htarget).trans hpointers)⟩
    · rw [hupointers, show pointerOf v.returns.pointers c = _ from hothers c hc, hpointers]
    · rw [show u = _ from hu, hlist, hentry]
      rfl
    · refine (hplaced m).trans ?_
      have hvrow : row v m = row k m := by rw [row, row, (by simp [v] : v.registry = k.registry)]
      rw [hvrow, hrows m]
      by_cases hm : m = n
      · rw [if_pos (by rw [hm]), if_pos hm, if_pos hm]
        rfl
      · rw [if_neg fun h => hm (Option.some.inj h).symm, if_neg hm, if_neg hm]
        rfl
    · have hsup : u.sup = k.sup := by
        rw [show u = _ from hu, show v = _ from hv]
      by_cases hdue : w.rewashDue = true
      · rw [if_pos hdue] at hmark ⊢
        rw [Raised, alert, hsup]
        exact hmark
      · rw [if_neg hdue] at hmark ⊢
        exact hsup.trans hmark
    · apply state_ext
      case sup => apply sup_ext <;> simp [u, v, k] <;> rfl
      case returns => apply returns_ext <;> simp [u, v, k] <;> rfl
      all_goals simp [u, v, k]
      all_goals rfl
  · let b := abandonRead s .ret
    have hexec := exec_returnRead n hattempt ha hplace
    cases hrow : row s n with
    | none =>
      let c := removeEnRoute b n
      have hroom' : c.returns.enRoute.length < 24 := lt_of_le_of_lt (List.length_filter_le _ _) hroom
      obtain ⟨-, hu⟩ := appendEnRoute_changes (s := c) hroom' (some n) none
      have hvacant : row c n = none := hrow
      have hdispatch : dispatchRead c n (placeOf s n == some .queued) = appendEnRoute c (some n) none := by
        have hplace' : (placeOf s n == some .queued) = false := by simp [placeOf, hrow]
        rw [hplace', dispatchRead, if_neg (by decide)]
        simp only [hvacant]
      have hsettle : settle (appendEnRoute c (some n) none) = appendEnRoute c (some n) none := by
        rw [hu]
        exact settle_of_line hsettled hnobody rfl rfl rfl rfl rfl rfl
      rw [if_pos hrow, show removeEnRoute (abandonRead s .ret) n = c from rfl, hdispatch, hsettle] at hexec
      have hregistry : (appendEnRoute c (some n) none).registry = s.registry := by
        rw [appendEnRoute_room hroom']
        have hvacant' : row { c with returns := { c.returns with
            enRoute := c.returns.enRoute ++ [newEntry c (some n) none] } } n = none := hvacant
        simp only [setPlaceOf, setPlace, hvacant']
        rfl
      refine ⟨_, hexec, (fun w h => by cases h), (fun w h => by cases h), fun _ => ⟨hregistry, ?_⟩, ?_⟩
      · rw [hu]
        rfl
      · rw [hu]
        rfl
    | some w =>
      have henrolled : row s n ≠ none := by rw [hrow]; simp
      rw [if_neg henrolled] at hexec
      by_cases hqueued : w.place = .queued
      · obtain ⟨-, hu⟩ := appendEnRoute_changes (s := b) hroom none none
        have hqueued' : (placeOf s n == some .queued) = true := by simp [placeOf, hrow, hqueued]
        have hsettle : settle (appendEnRoute b none none) = appendEnRoute b none none := by
          rw [hu]
          exact settle_of_line hsettled hnobody rfl rfl rfl rfl rfl rfl
        rw [hqueued', show dispatchRead (abandonRead s .ret) n true = appendEnRoute b none none from rfl,
          hsettle] at hexec
        refine ⟨_, hexec, fun w' h hq => ⟨?_, ?_⟩, fun w' h hq => ?_, (fun h => by cases h), ?_⟩
        · rw [appendEnRoute_room (s := b) hroom]
          rfl
        · rw [hu]
          rfl
        · cases h
          exact absurd hqueued hq
        · rw [hu]
          rfl
      · obtain ⟨hplaced, hu⟩ := appendEnRoute_changes (s := b) hroom (some n) none
        have hretired : w.retired = true := (hwhich w hrow).elim And.left fun h => absurd h hqueued
        have hdispatch : dispatchRead b n (placeOf s n == some .queued) = appendEnRoute b (some n) none := by
          have hqueued' : (placeOf s n == some .queued) = false := by simpa [placeOf, hrow] using hqueued
          have hrow' : row b n = some w := hrow
          rw [hqueued', dispatchRead, if_neg (by decide)]
          simp only [hrow', hretired, if_true]
        have hsettle : settle (appendEnRoute b (some n) none) = appendEnRoute b (some n) none := by
          rw [hu]
          exact settle_of_line hsettled hnobody rfl rfl rfl rfl rfl rfl
        rw [show abandonRead s .ret = b from rfl, hdispatch, hsettle] at hexec
        refine ⟨_, hexec, fun w' h hq => ?_, fun w' h hq => ⟨hplaced, ?_⟩, (fun h => by cases h), ?_⟩
        · cases h
          exact absurd hq hqueued
        · rw [hu]
          rfl
        · rw [hu]
          rfl
  · let b := setReader s .ret { attempt := none, failures := min 65535 ((reader s .ret).failures + 1) }
    have hexec : exec (.attemptTimeout .ret) s = .next (settle (appendEnRoute b none none)) :=
      exec_attemptTimeout_third hattempt
    rw [hexec, appendEnRoute_room (s := b) hroom]
    exact congrArg _ (settle_of_line hsettled hnobody rfl rfl rfl rfl rfl rfl)
  · let b := setReader s .ret { attempt := none, failures := min 65535 ((reader s .ret).failures + 1) }
    let d := { b with returns := { s.returns with enRoute := rest } }
    have hexec : exec (.attemptTimeout .ret) s = .next (settle (appendEnRoute b none none)) :=
      exec_attemptTimeout_third hattempt
    have hdrop : dropOldest b = loseRack d e := by
      have hlist' : b.returns.enRoute = e :: rest := hlist
      simp only [dropOldest, hlist']
      exact if_pos (by simp [hlength, Config.enRouteLimit])
    obtain ⟨hraised, hplaced, hlost⟩ := loseRack_changes d e
    have happend : appendEnRoute b none none = { loseRack d e with
        returns := { s.returns with enRoute := rest ++ [newEntry s none none] } } := by
      rw [appendEnRoute, hdrop, hlost]
      rfl
    have hsettle : settle (appendEnRoute b none none) = appendEnRoute b none none := by
      rw [happend, hlost]
      exact settle_of_line hsettled hnobody rfl rfl rfl rfl rfl rfl
    rw [hsettle] at hexec
    refine ⟨_, hexec, ?_, ?_, ?_⟩
    · rw [happend]
      exact hraised
    · rw [happend]
      exact hplaced
    · rw [happend, hlost]
      rfl

end Sys2Proof.Proofs
end

section
/-! PROOFS. The 0.1 s step (sections 1.6, 6.4, 9.5, 10.2 and 10.3): the timers counted, and the ends it makes. -/

namespace Sys2Proof.Proofs

open Sys2Proof.Machine Sys2Proof.Laws

/-! ## The entries that are lost -/

theorem row_foldl_loseRack (l : List EnRoute) (s : State) (m : Rack) :
    row (l.foldl loseRack s) m =
      if l.any fun e => e.rack == some m then (row s m).map fun w => { w with place := .lost } else row s m := by
  induction l generalizing s with
  | nil => rfl
  | cons e l ih =>
    have hrow : row (loseRack s e) m = _ := (loseRack_changes s e).2.1 m
    rw [List.foldl_cons, ih, hrow, List.any_cons]
    by_cases he : e.rack = some m
    · simp only [he, beq_self_eq_true, Bool.true_or, if_true, Option.map_map]
      split <;> rfl
    · simp only [he, beq_eq_false_iff_ne.mpr he, Bool.false_or, if_false]

/-- The latched RETURN_LOST once the last of several entries has been lost. -/
theorem returnLost_foldl {l : List EnRoute} {e : EnRoute} (s : State) (hlast : l.getLast? = some e) :
    ∃ a, alert (l.foldl loseRack s) .returnLost = some a
      ∧ a.count = min 255 ((alert s .returnLost).elim 0 (fun b => b.count) + l.length)
      ∧ a.firstOdometer = (alert s .returnLost).elim s.belt.odometer (fun b => b.firstOdometer)
      ∧ a.lastRack = e.rack := by
  induction l using List.reverseRecOn generalizing e with
  | nil => cases hlast
  | append_singleton l d ih =>
    obtain rfl : d = e := by simpa using hlast
    have hlost : alert ((l ++ [d]).foldl loseRack s) .returnLost
        = some (latchedBy s.belt.odometer d.rack false (alert (l.foldl loseRack s) .returnLost)) := by
      have hsup : (loseRack (l.foldl loseRack s) d).sup = (raise (l.foldl loseRack s) .returnLost d.rack).sup := by
        simp [loseRack]
      have hraised : alert (loseRack (l.foldl loseRack s) d) .returnLost
          = alert (raise (l.foldl loseRack s) .returnLost d.rack) .returnLost := by
        rw [alert, hsup, alert]
      rw [List.foldl_append, List.foldl_cons, List.foldl_nil, hraised, alert_raise, if_pos rfl,
        (foldl_loseRack_frame l s).1]
    refine ⟨_, hlost, ?_⟩
    cases hl : l.getLast? with
    | none =>
      obtain rfl : l = [] := List.getLast?_eq_none_iff.mp hl
      rw [List.foldl_nil]
      cases alert s .returnLost with
      | none => exact ⟨rfl, rfl, rfl⟩
      | some b => exact ⟨rfl, rfl, rfl⟩
    | some c =>
      obtain ⟨a, ha, hcount, hodometer, -⟩ := ih hl
      rw [ha]
      refine ⟨?_, hodometer, rfl⟩
      simp only [latchedBy, saturatingAdd, Config.byteLimit, List.length_append, List.length_singleton, hcount]
      omega

/-! ## The step -/

/-- The state after a 0.1 s step in which the encoder-stall timer does not reach 30. -/
def tenthStepped (s : State) : State :=
  if s.pacing.stallTimer = .counting 1 then stallAlert (tenthCounted s) else tenthCounted s

theorem exec_congestionTimerStep {s : State} (h : ∀ n, s.belt.timer = .running n → n + 1 < 30) :
    exec .congestionTimerStep s = .next (tenthStepped s) := by
  have hencoder : encoderLastTenth s = false := by
    unfold encoderLastTenth
    split
    case h_1 n htimer => exact decide_eq_false (Nat.not_le.mpr (h n htimer))
    all_goals rfl
  change execCongestionTimerStep s = _
  simp only [execCongestionTimerStep, hencoder, stallLastTenth_iff]
  rfl

/-- The step of the stall timer from 1 to 0 touches the tunnel records and TUNNEL_STALL alone (R102). -/
theorem tenthStepped_eq (s : State) :
    tenthStepped s = { tenthCounted s with
      tunnel := (tenthStepped s).tunnel
      sup := { (tenthCounted s).sup with
        alerts := (tenthStepped s).sup.alerts, alertOutput := (tenthStepped s).sup.alertOutput } } := by
  rw [tenthStepped]
  split
  · rw [stallAlert_eq]
    rfl
  · rfl

theorem tenthStepped_stall (s : State) :
    if s.pacing.stallTimer = .counting 1 then
      Raised s (tenthStepped s) .tunnelStall s.belt.odometer none
        ∧ (tenthStepped s).tunnel.list = s.tunnel.list.map fun r => { r with flags := { r.flags with stalled := true } }
    else alert (tenthStepped s) .tunnelStall = alert s .tunnelStall ∧ (tenthStepped s).tunnel.list = s.tunnel.list := by
  have hcounted : alert (tenthCounted s) .tunnelStall = alert s .tunnelStall := alert_tenthCounted s (by decide)
  by_cases hlast : s.pacing.stallTimer = .counting 1
  · rw [if_pos hlast, tenthStepped, if_pos hlast, stallAlert_eq]
    have hraised := raise_raised (tenthCounted s) .tunnelStall none
    rw [Raised] at hraised ⊢
    refine ⟨?_, by simp⟩
    have hodometer : (tenthCounted s).belt.odometer = s.belt.odometer := by simp
    rw [hcounted, hodometer] at hraised
    exact hraised
  · rw [if_neg hlast, tenthStepped, if_neg hlast]
    exact ⟨hcounted, by simp⟩

theorem alert_tenthStepped (s : State) {k : AlertKind} (h : k ≠ .tunnelStall) :
    alert (tenthStepped s) k = alert (tenthCounted s) k := by
  rw [tenthStepped]
  split
  · rw [stallAlert_eq]
    exact (alert_raise (tenthCounted s) .tunnelStall k none).trans (if_neg h.symm)
  · rfl

theorem tenthStepped_lamp (s : State) :
    (tenthStepped s).tunnel = { s.tunnel with
      list := (tenthStepped s).tunnel.list, lamp := lampTenth s.tunnel.lamp } := by
  rw [tenthStepped]
  split
  · rw [stallAlert_eq]
    simp
  · simp

theorem tenthCounted_tray (s : State) :
    (tenthCounted s).tray = { (congestionStep (countTenth s)).tray with
      north := trayTenth s.tray.north, south := trayTenth s.tray.south } := by
  simp [tenthCounted, congestionStep, countTenth, setCongestion]

/-- The entries that a tenth does not lose, one tenth nearer to their deadlines (R143). -/
def deadlinesFallen (l : List EnRoute) : List EnRoute :=
  (l.filter fun e => !lastTenth e).map fun e => { e with deadline := e.deadline - 1 }

/-- The deadlines of a running return belt fall, and the entries of the last tenth are lost (R143). -/
theorem tenthCounted_deadlines {s : State} {lost : List EnRoute}
    (hlost : lost = if s.returns.returnBelt then s.returns.enRoute.filter fun e => decide (e.deadline ≤ 1) else []) :
    (tenthCounted s).returns.enRoute =
        (if s.returns.returnBelt then
          (s.returns.enRoute.filter fun e => decide (1 < e.deadline)).map fun e => { e with deadline := e.deadline - 1 }
        else s.returns.enRoute)
      ∧ (∀ m, row (tenthCounted s) m =
          if lost.any fun e => e.rack == some m then (row s m).map fun w => { w with place := .lost } else row s m)
      ∧ (lost = [] → alert (tenthCounted s) .returnLost = alert s .returnLost)
      ∧ ∀ e, lost.getLast? = some e → ∃ a, alert (tenthCounted s) .returnLost = some a
          ∧ a.count = min 255 ((alert s .returnLost).elim 0 (fun b => b.count) + lost.length)
          ∧ a.firstOdometer = (alert s .returnLost).elim s.belt.odometer (fun b => b.firstOdometer)
          ∧ a.lastRack = e.rack := by
  let c := congestionStep (countTenth s)
  cases hbelt : s.returns.returnBelt with
  | false =>
    have hkept : tenthCounted s = c := if_neg (by rw [show c.returns.returnBelt = _ from hbelt]; decide)
    rw [hbelt] at hlost
    subst hlost
    rw [hkept]
    exact ⟨rfl, fun _ => rfl, fun _ => rfl, fun _ h => by cases h⟩
  | true =>
    rw [hbelt] at hlost
    let d := { c with returns := { c.returns with enRoute := deadlinesFallen c.returns.enRoute } }
    have hfold : tenthCounted s = lost.foldl loseRack d := by
      have hruns : deadlinesTenth c = (c.returns.enRoute.filter lastTenth).foldl loseRack d := if_pos hbelt
      rw [hlost, if_pos rfl]
      exact hruns
    rw [hfold]
    refine ⟨?_, fun m => row_foldl_loseRack lost d m, (fun h => by rw [h]; rfl), fun e he => returnLost_foldl d he⟩
    have hlist : (lost.foldl loseRack d).returns = d.returns := by simp [foldl_loseRack_frame]
    rw [hlist, if_pos rfl, show d.returns.enRoute = deadlinesFallen s.returns.enRoute from rfl, deadlinesFallen]
    refine congrArg (List.map fun e : EnRoute => { e with deadline := e.deadline - 1 }) (List.filter_congr fun e _ => ?_)
    rw [lastTenth, ← decide_not]
    exact decide_eq_decide.mpr Nat.not_le

theorem tenthCounted_sup (s : State) :
    (tenthCounted s).sup = { s.sup with
      alerts := (tenthCounted s).sup.alerts, alertOutput := (tenthCounted s).sup.alertOutput } := by
  apply sup_ext <;> simp [tenthCounted, congestionStep, countTenth]

theorem tenthCounted_returns (s : State) :
    (tenthCounted s).returns = { s.returns with
      enRoute := (tenthCounted s).returns.enRoute, diverters := (tenthCounted s).returns.diverters } := by
  apply returns_ext <;> simp

/-- Settles O39. -/
theorem tenthStepCountsEveryTimer : Obligations.TenthStepCountsEveryTimer := by
  intro s lost hencoder hlost
  obtain ⟨hroute, hrows, hnone, hsome⟩ := tenthCounted_deadlines hlost
  have heq := tenthStepped_eq s
  have htray := (congrArg State.tray heq).trans (tenthCounted_tray s)
  have hrow : ∀ m, row (tenthStepped s) m = row (tenthCounted s) m := fun m => by rw [row, heq]; rfl
  refine ⟨_, exec_congestionTimerStep hencoder, ?_, ?_, ?_, fun b => ?_, ?_, tenthStepped_stall s, ?_, fun m => ?_, ?_,
    fun k hstall hreturn => ?_, fun k => ?_, ?_, ?_, ?_⟩
  · rw [htray]
    rfl
  · rw [htray]
    exact beq_iff_eq
  · rw [htray]
    rfl
  · have hchannel : trayChannel (tenthStepped s) b = trayTenth (trayChannel s b) := by
      cases b
      · exact congrArg Tray.north htray
      · exact congrArg Tray.south htray
    rw [hchannel]
    cases hstate : (trayChannel s b).state <;> simp only [trayTenth, hstate] <;> rw [← hstate]
  · have hpacing : (tenthCounted s).pacing = { s.pacing with stallTimer := stallTenth s.pacing.stallTimer } := by simp
    rw [congrArg State.pacing heq]
    refine hpacing.trans ?_
    cases s.pacing.stallTimer <;> rfl
  · rw [congrArg State.returns heq]
    exact hroute
  · rw [hrow, hrows]
  · rw [alert_tenthStepped s (by decide)]
    split
    case h_1 hlast => exact hnone (List.getLast?_eq_none_iff.mp hlast)
    case h_2 e hlast => exact hsome e hlast
  · rw [alert_tenthStepped s hstall, alert_tenthCounted s hreturn]
  · have hdiverters : (tenthStepped s).returns.diverters = vectorMap diverterTenth s.returns.diverters := by
      rw [heq]
      simp
    have hk : (tenthStepped s).returns.diverters[k] = diverterTenth s.returns.diverters[k] := by
      rw [hdiverters]
      exact vectorMap_getElem _ _ _ _
    rw [hk]
    cases s.returns.diverters[k] <;> rfl
  · have hbelt : (tenthCounted s).belt = { s.belt with timer := encoderTenth s.belt.timer } := by simp
    rw [congrArg State.belt heq]
    refine hbelt.trans ?_
    cases s.belt.timer <;> rfl
  · refine (tenthStepped_lamp s).trans ?_
    cases s.tunnel.lamp <;> rfl
  · apply state_ext
    case sup =>
      refine (congrArg State.sup heq).trans ?_
      rw [tenthCounted_sup]
    case returns =>
      have hreturns := congrArg State.returns heq
      rw [hreturns]
      exact tenthCounted_returns s
    all_goals rw [heq]
    all_goals simp

end Sys2Proof.Proofs
end

section
/-! PROOFS. The settings store (sections 11.2 and 11.7): the load completion, LD, SV and the save completion. -/

namespace Sys2Proof.Proofs

open Sys2Proof.Machine Sys2Proof.Laws

/-! ## Requests at a quiet link -/

/-- A request has its effect on the state with the buffer idle, and its reply is begun (R172, R174). -/
theorem takeRequest_effect {s t : State} {command : Text} {effect : State → State × Reply} {r : Reply}
    (hquiet : linkQuiet s) (h : effect (idleBuffer s) = (t, r)) :
    takeRequest s command effect = sendReply t command r := by
  rw [takeRequest_quiet s command effect hquiet, show effect { s with link := _ } = (t, r) from h]

theorem storeBusy_iff (s : State) : storeBusy s = true ↔ s.sup.storeOp ≠ .none := bne_iff_ne

theorem storeBusy_idle {s : State} (h : s.sup.storeOp = .none) : storeBusy s = false := by rw [storeBusy, h]; rfl

/-! ## New settings in use -/

@[simp] theorem adoptSettings_settings (s : State) (c : Settings) (epm : Bool) :
    (adoptSettings s c epm).settings = c := by
  unfold adoptSettings
  dsimp only
  split <;> simp [setDemand, foldl_requalify_frame]

/-- New settings that bring EPM clear both accumulators (R2). -/
@[simp] theorem adoptSettings_accumulators (s : State) (c : Settings) :
    (adoptSettings s c true).belt.forwardAcc = 0 ∧ (adoptSettings s c true).belt.reverseAcc = 0 := ⟨rfl, rfl⟩

/-- The speed demand is clamped into the range of new settings (R82). -/
@[simp] theorem adoptSettings_speedDemand (s : State) (c : Settings) (epm : Bool) :
    (adoptSettings s c epm).pacing.speedDemand = clampSpeed c s.pacing.speedDemand := by
  unfold adoptSettings
  dsimp only
  split <;> simp [setDemand, foldl_requalify_frame]

/-- An input under new polarities: judged afresh against its filtered state where its own has changed (R19). -/
def judged (old new : Vector Bool 20) (i : Input) (c : InputChannel) : InputChannel :=
  if old[i.index] = new[i.index] then c else { c with qualifying := readsActive new[i.index] c.level != c.filtered }

theorem channel_requalify (old new : Vector Bool 20) (s : State) (i j : Input) :
    channel (requalify old new s i) j = if i = j then judged old new j (channel s j) else channel s j := by
  unfold requalify judged
  by_cases hij : i = j
  · subst hij
    split <;> simp
  · split <;> simp [hij]

theorem judged_judged (old new : Vector Bool 20) (i : Input) (c : InputChannel) :
    judged old new i (judged old new i c) = judged old new i c := by
  unfold judged
  split <;> rfl

theorem channel_foldl_requalify (old new : Vector Bool 20) (l : List Input) (s : State) (j : Input) :
    channel (l.foldl (requalify old new) s) j = if j ∈ l then judged old new j (channel s j) else channel s j := by
  induction l generalizing s with
  | nil => simp
  | cons i l ih =>
    rw [List.foldl_cons, ih, channel_requalify]
    by_cases hij : i = j
    · subst hij
      simp [judged_judged]
    · simp [hij, Ne.symm hij]

/-- Every input under new settings (R19). -/
theorem channel_adoptSettings (s : State) (c : Settings) (epm : Bool) (j : Input) :
    channel (adoptSettings s c epm) j = judged s.settings.pol c.pol j (channel s j) := by
  have hinputs : (adoptSettings s c epm).inputs
      = (Input.all.foldl (requalify s.settings.pol c.pol) { s with settings := c }).inputs := by
    unfold adoptSettings
    dsimp only
    split <;> simp [setDemand, limitHoldCounts, setCongestion]
  have hfold := channel_foldl_requalify s.settings.pol c.pol Input.all { s with settings := c } j
  rw [if_pos (input_mem_all j)] at hfold
  rw [channel, hinputs]
  exact hfold

@[simp] theorem isActive_adoptSettings (s : State) (c : Settings) (epm : Bool) (j : Input) :
    isActive (adoptSettings s c epm) j = isActive s j := by
  rw [isActive, channel_adoptSettings, judged]
  split <;> rfl

/-- The zone table in use is kept by the load of XR, and no other parameter (R14). -/
theorem paramGet_keepZoneTable (inUse loaded : Settings) (p : Param) :
    paramGet (keepZoneTable inUse loaded) p = if paramIsZone p then paramGet inUse p else paramGet loaded p := by
  have hfold : ∀ (l : List Param) (c : Settings),
      paramGet (l.foldl (fun c p => if paramIsZone p then paramSet c p (paramGet inUse p) else c) c) p
        = if p ∈ l ∧ paramIsZone p = true then paramGet inUse p else paramGet c p := by
    intro l
    induction l with
    | nil => simp
    | cons q l ih =>
      intro c
      rw [List.foldl_cons, ih]
      by_cases hl : p ∈ l ∧ paramIsZone p = true
      · rw [if_pos hl, if_pos ⟨List.mem_cons_of_mem q hl.1, hl.2⟩]
      · rw [if_neg hl]
        by_cases hq : p = q
        · subst hq
          by_cases hzone : paramIsZone p = true <;> simp [hzone]
        · have hcons : (p ∈ q :: l ∧ paramIsZone p = true) ↔ (p ∈ l ∧ paramIsZone p = true) := by simp [hq]
          rw [if_congr hcons rfl rfl, if_neg hl]
          split <;> simp [Ne.symm hq]
  rw [keepZoneTable, hfold]
  have hp : p ∈ Param.all := by cases p <;> decide
  simp [hp]

theorem keepZoneTable_rest (inUse loaded : Settings) :
    (keepZoneTable inUse loaded).pol = loaded.pol ∧ (keepZoneTable inUse loaded).autoClass = loaded.autoClass := by
  have hfold : ∀ (l : List Param) (c : Settings),
      (l.foldl (fun c p => if paramIsZone p then paramSet c p (paramGet inUse p) else c) c).pol = c.pol
        ∧ (l.foldl (fun c p => if paramIsZone p then paramSet c p (paramGet inUse p) else c) c).autoClass
          = c.autoClass := by
    intro l
    induction l with
    | nil => exact fun c => ⟨rfl, rfl⟩
    | cons q l ih =>
      intro c
      rw [List.foldl_cons, (ih _).1, (ih _).2]
      split <;> exact ⟨rfl, rfl⟩
  exact hfold _ _

/-! ## A load's values -/

theorem loadTables_writes (s : State) (i : StoreImage) :
    (loadTables s i).sup.mask = i.mask ∧ (loadTables s i).returns.stations = i.stations
      ∧ ∀ m : Rack, row (loadTables s i) m = i.rows[m].map rowLoaded :=
  ⟨rfl, rfl, fun m => vectorMap_getElem _ i.rows m.val m.isLt⟩

/-- With no rack read early the rows stay as loaded (R130). -/
theorem placeEarlyReads_none {s : State} (hstage : s.stage = .empty ∨ s.stage = .reading)
    (hroute : s.returns.enRoute = []) : placeEarlyReads s = s := by
  have hstop : rackAtStop s.stage = none := by rcases hstage with h | h <;> rw [h] <;> rfl
  rw [placeEarlyReads, hstop, hroute]
  rfl

/-! ## SV and the save completion -/

/-- Settles O44. -/
theorem savesWriteTheImageOfTheRequest : Obligations.SavesWriteTheImageOfTheRequest := by
  refine ⟨fun s hquiet => ⟨fun hidle => ?_, fun hbusy => ?_⟩, fun s i found hsaving => ?_⟩
  · refine ⟨serialWhileSaving s, ?_, ?_⟩
    · unfold serialWhileSaving
      split
      · exact .inl rfl
      · exact .inr rfl
    · have heffect : svEffect (idleBuffer s) =
          ({ idleBuffer s with
              sup := { s.sup with storeOp := .saving (currentImage s), lastSave := .none }
              store := .mixed (serialWhileSaving s)
              freeIndex := s.freeIndex + 1 }, okay) := if_neg (by rw [storeBusy_idle (s := idleBuffer s) hidle]; decide)
      exact congrArg Host.Outcome.next (takeRequest_effect hquiet heffect)
  · exact congrArg Host.Outcome.next (takeRequest_answered s _ _ _ hquiet
      (if_pos ((storeBusy_iff (idleBuffer s)).mpr hbusy)))
  · have hexec : exec (.saveCompletion found) s = .next (completeSave s i found) := by
      change execSaveCompletion found s = _
      simp only [execSaveCompletion, hsaving]
    refine ⟨_, hexec, ?_⟩
    by_cases hfound : found = .whole i (checkWord i)
    · have hpassed : completeSave s i found
          = { s with store := found, sup := { s.sup with storeOp := .none, lastSave := .passed } } := if_pos hfound
      rw [hpassed]
      exact ⟨rfl, rfl, fun _ => rfl, fun h => absurd hfound h⟩
    · let u : State := { s with store := found, sup := { s.sup with storeOp := .none, lastSave := .failed } }
      have hfailed : completeSave s i found = raise u .saveFailed none := if_neg hfound
      rw [hfailed]
      exact ⟨rfl, rfl, fun h => absurd h hfound, fun _ => ⟨raise_raised u .saveFailed none, rfl⟩⟩

/-! ## LD -/

/-- Where nobody waits, an event on an empty line that is not in RUN leaves nothing more to do (R161, R162). -/
theorem settle_atRest {s : State} (hnobody : nobodyWaits s = true) (hempty : lineEmpty s = true)
    (hmode : s.sup.mode ≠ .run) : settle s = s :=
  settle_stays hnobody hempty (by simp [drainEnds, hmode]) (by simp [runOnEnds, hmode])

theorem atRest_iff (m : LineMode) : atRest m = true ↔ m ≠ .loading ∧ m ≠ .run := by
  cases m <;> simp [atRest]

/-- A load that finds the image bad raises SETTINGS_DEFAULT, and any other no alert (R168). -/
theorem raiseIfBad_alerts (s : State) (image : Option StoreImage) :
    (image = none → Raised s (raiseIfBad s image) .settingsDefault s.belt.odometer none)
      ∧ (image.isSome → raiseIfBad s image = s) := by
  cases image with
  | none => exact ⟨fun _ => raise_raised s .settingsDefault none, (fun h => by cases h)⟩
  | some i => exact ⟨(fun h => by cases h), fun _ => rfl⟩

/-- What a load at rest writes (R168, R169). -/
theorem handOverAtRest_writes (s : State) (image : Option StoreImage) :
    let i := image.getD factoryImage
    let t := handOverAtRest s image
    t.settings = i.settings ∧ t.sup.mask = i.mask ∧ t.returns.stations = i.stations
      ∧ (∀ m : Rack, row t m = i.rows[m].map rowLoaded)
      ∧ t.pacing.speedDemand = min (max s.pacing.speedDemand (par t .vmin)) (par t .vnom)
      ∧ (image = none → Raised s t .settingsDefault s.belt.odometer none)
      ∧ (image.isSome → t.sup.alerts = s.sup.alerts) := by
  intro i t
  let u := loadTables (adoptSettings s i.settings true) i
  have ht : t = raiseIfBad u image := rfl
  obtain ⟨hmask, hstations, hrows⟩ := loadTables_writes (adoptSettings s i.settings true) i
  obtain ⟨hbad, hgood⟩ := raiseIfBad_alerts u image
  have hsettings : t.settings = i.settings := by simp [ht, u]
  have halerts : u.sup.alerts = s.sup.alerts := by simp [u, loadTables, loadRegistry, setMask, refreshAlertOutput]
  have hodometer : u.belt.odometer = s.belt.odometer := by simp [u]
  refine ⟨hsettings, ?_, ?_, fun m => ?_, ?_, fun h => ?_, fun h => ?_⟩
  · rw [ht, ← hmask]
    simp [u]
  · rw [ht, ← hstations]
    simp [u]
  · rw [← hrows m, ht, row, row, (by simp [u] : (raiseIfBad u image).registry = u.registry)]
  · rw [par, par, hsettings, ht]
    simp [u, clampSpeed]
  · have hraised := hbad h
    rw [← ht] at hraised
    simp only [Raised, alert, halerts, hodometer] at hraised ⊢
    exact hraised
  · rw [ht, hgood h, halerts]

/-- Settles O45. -/
theorem ldLoadsALineAtRest : Obligations.LdLoadsALineAtRest := by
  intro s hquiet
  refine ⟨fun hbusy => ?_, fun hidle hrefused => ?_, fun hidle hloading hrun hempty hroute hnobody => ?_⟩
  · exact congrArg Host.Outcome.next (takeRequest_answered s _ _ _ hquiet
      (if_pos ((storeBusy_iff (idleBuffer s)).mpr hbusy)))
  · have hbusy : ¬ storeBusy (idleBuffer s) = true := by rw [storeBusy_idle (s := idleBuffer s) hidle]; decide
    refine congrArg Host.Outcome.next (takeRequest_answered s _ _ _ hquiet ((if_neg hbusy).trans ?_))
    by_cases hrest : atRest s.sup.mode = false
    · exact if_pos hrest
    · obtain ⟨hloading, hrun⟩ := (atRest_iff s.sup.mode).mp (Bool.not_eq_false _ ▸ hrest)
      have hholds : lineEmpty s = false ∨ s.returns.enRoute ≠ [] := by tauto
      exact (if_neg hrest).trans (if_pos hholds)
  · let u := handOverAtRest (idleBuffer s) (goodImage? s.store)
    have hsettle : settle u = u :=
      settle_atRest (nobodyWaits_of_stage hnobody (by simp [u]; rfl))
        ((lineEmpty_of_same (s := s) (by simp [u]; rfl) (by simp [u]; rfl)).trans hempty) (by simp [u]; exact hrun)
    have heffect : ldEffect (idleBuffer s) = (u, okay) := by
      have hbusy : ¬ storeBusy (idleBuffer s) = true := by rw [storeBusy_idle (s := idleBuffer s) hidle]; decide
      have hrest : ¬ atRest (idleBuffer s).sup.mode = false := by
        rw [(atRest_iff (idleBuffer s).sup.mode).mpr ⟨hloading, hrun⟩]
        decide
      have hholds : ¬ (lineEmpty (idleBuffer s) = false ∨ (idleBuffer s).returns.enRoute ≠ []) := by
        rintro (h | h)
        · exact absurd (hempty.symm.trans h) (by decide)
        · exact h hroute
      rw [ldEffect, if_neg hbusy, if_neg hrest, if_neg hholds]
      exact congrArg (·, okay) hsettle
    obtain ⟨hsettings, hmask, hstations, hrows, hspeed, hbad, hgood⟩ :=
      handOverAtRest_writes (idleBuffer s) (goodImage? s.store)
    refine ⟨sendReply u "LD".toList okay, _, congrArg Host.Outcome.next (takeRequest_effect hquiet heffect), rfl,
      hsettings, hmask, hstations, hrows, hspeed, by simp [u]; rfl, by simp [u]; rfl, by simp [u]; rfl, hbad, hgood,
      ?_, ?_⟩
    · simp [u, sendReply]
      rfl
    · apply state_ext <;> simp [u] <;> rfl

/-! ## The load completion -/

/-- A line that admits no rack keeps its en-route list and registry as an event is settled, in neither RUN nor PARKED
(R33, R34). -/
theorem settle_notAdmitting {s : State} (hrun : s.sup.mode ≠ .run) (hparked : s.sup.mode ≠ .parked) :
    (settle s).returns = s.returns ∧ (settle s).registry = s.registry := by
  have hadmits : modeAdmits s = false := by simp [modeAdmits, hrun, hparked]
  have hreevaluate : (reevaluate s).returns = s.returns ∧ (reevaluate s).registry = s.registry := by
    cases hstage : s.stage with
    | waiting r o =>
      simp only [reevaluate, hstage]
      split
      case isTrue => exact ⟨rfl, rfl⟩
      case isFalse =>
        simp [decideAdmission, waitReason_not_admitting s o hadmits, autoEnrol_not_admitting s o hadmits]
    | empty => simp only [reevaluate, hstage, and_self]
    | reading => simp only [reevaluate, hstage, and_self]
    | admitting p n held => simp only [reevaluate, hstage, and_self]
  have hmode : (runOnWhileOccupied (reevaluate s)).sup.mode = s.sup.mode := by
    rw [← reevaluate_keepsMode hparked]
    simp
  have hdrain : drainTest (runOnWhileOccupied (reevaluate s)) = runOnWhileOccupied (reevaluate s) :=
    if_neg (by rw [drainEnds, hmode]; simp [hrun])
  rw [settle, hdrain, runOnTest, if_neg (by rw [runOnEnds, hmode]; simp [hrun])]
  simpa using hreevaluate

/-- The state at a load completion before the event is settled (R158). -/
def loadCompleted (s : State) (kind : LoadKind) : State :=
  modeAtLoadCompletion (endStoreOp (beginPolling (handOver s kind (goodImage? s.store))))

/-- The values handed over at a load completion: the settings, and the demand and the accumulators that follow (R2,
R88). -/
theorem handOver_writes (s : State) (kind : LoadKind) (image : Option StoreImage) :
    (handOver s kind image).settings = (handedOver s kind (image.getD factoryImage)).settings
      ∧ (handOver s kind image).sup.mask = (handedOver s kind (image.getD factoryImage)).sup.mask
      ∧ (handOver s kind image).returns = (handedOver s kind (image.getD factoryImage)).returns
      ∧ (handOver s kind image).registry = (handedOver s kind (image.getD factoryImage)).registry
      ∧ (handOver s kind image).pacing.speedDemand = par (handedOver s kind (image.getD factoryImage)) .vnom
      ∧ (handOver s kind image).belt.forwardAcc = 0 ∧ (handOver s kind image).belt.reverseAcc = 0
      ∧ ∀ j, isActive (handOver s kind image) j = isActive s j := by
  have haccumulators : (handedOver s kind (image.getD factoryImage)).belt.forwardAcc = 0
      ∧ (handedOver s kind (image.getD factoryImage)).belt.reverseAcc = 0 := by
    cases kind <;> simp [handedOver]
  have hactive : ∀ j, isActive (handedOver s kind (image.getD factoryImage)) j = isActive s j := by
    intro j
    cases kind with
    | powerUp =>
      have hinputs : (handedOver s .powerUp (image.getD factoryImage)).inputs
          = (adoptSettings s (image.getD factoryImage).settings true).inputs := by simp [handedOver]
      rw [isActive, channel, hinputs]
      exact isActive_adoptSettings s _ true j
    | lineReset => exact isActive_adoptSettings s _ true j
  rw [handOver_eq]
  generalize handedOver s kind (image.getD factoryImage) = h at *
  refine ⟨by simp [setDemand], by simp [setDemand], by simp [setDemand], by simp [setDemand], rfl,
    by simp [setDemand, haccumulators], by simp [setDemand, haccumulators], fun j => ?_⟩
  rw [← hactive j, isActive, isActive, channel, channel, (by simp [setDemand] :
    (setDemand (raiseIfBad h image) (par h .vnom)).inputs = h.inputs)]

theorem loadCompleted_mode (s : State) (kind : LoadKind) :
    (loadCompleted s kind).sup.mode =
      if s.sup.mode = .loading then if isActive s .es then .halt .estop else .warming else s.sup.mode := by
  let k := endStoreOp (beginPolling (handOver s kind (goodImage? s.store)))
  have hmode : k.sup.mode = s.sup.mode := by simp [k, endStoreOp]
  have hactive : isActive k .es = isActive s .es := by
    rw [← (handOver_writes s kind (goodImage? s.store)).2.2.2.2.2.2.2 .es]
    simp [isActive, channel, k, endStoreOp]
  have hcompleted : loadCompleted s kind = modeAtLoadCompletion k := rfl
  rw [hcompleted, modeAtLoadCompletion, hmode, hactive]
  by_cases hloading : s.sup.mode = .loading
  · rw [if_pos hloading, if_pos hloading]
    split
    · rw [requestHalt_enters .estop (by rw [hmode, hloading]; rfl), changeMode_sup]
    · rw [changeMode_sup]
  · rw [if_neg hloading, if_neg hloading, hmode]

/-- Settles O43. -/
theorem loadCompletionHandsTheSettingsOver : Obligations.LoadCompletionHandsTheSettingsOver := by
  intro s kind hloading
  let i := (goodImage? s.store).getD factoryImage
  let u := loadCompleted s kind
  have hexec : exec .loadCompletion s = .next (settle u) := by
    change execLoadCompletion s = _
    simp only [execLoadCompletion, hloading]
    rfl
  obtain ⟨hsettings, hmask, hreturns, hregistry, hspeed, hforward, hreverse, -⟩ :=
    handOver_writes s kind (goodImage? s.store)
  have hmode := loadCompleted_mode s kind
  have hsettings' : (settle u).settings = (handedOver s kind i).settings := by
    rw [← hsettings]
    simp [u, loadCompleted, endStoreOp]
  have hstations : (settle u).returns.stations = (handedOver s kind i).returns.stations := by
    rw [← hreturns]
    simp [u, loadCompleted, endStoreOp]
  have hmask' : (settle u).sup.mask = (handedOver s kind i).sup.mask := by
    rw [← hmask]
    simp [u, loadCompleted, endStoreOp]
  have hregistry' : u.registry = (handedOver s kind i).registry := by
    rw [← hregistry]
    simp [u, loadCompleted, endStoreOp]
  have hroute : u.returns.enRoute = s.returns.enRoute := by simp [u, loadCompleted, endStoreOp]
  have hstage : u.stage = s.stage := by simp [u, loadCompleted, endStoreOp]
  refine ⟨settle u, i, hexec, rfl, ?_, fun hkind => ⟨?_, ?_, ?_, fun hempty hnone m => ?_⟩,
    fun hkind => ⟨fun p => ?_, ?_, ?_, ?_, ?_, fun hnobody => ?_⟩, ?_, ?_, fun hloads => ?_, fun hhalt => ?_,
    ?_, ?_, ?_, fun hwhich => ?_, ?_, ?_⟩
  · simp [u, loadCompleted, endStoreOp]
  · subst hkind
    rw [hsettings']
    simp [handedOver]
  · subst hkind
    rw [hmask']
    simp [handedOver]
    rfl
  · subst hkind
    rw [hstations]
    simp [handedOver]
    rfl
  · subst hkind
    have hloaded : handedOver s .powerUp i = loadTables (adoptSettings s i.settings true) i :=
      placeEarlyReads_none (by simpa using hempty) (by simpa using hnone)
    have hnobody : nobodyWaits u = true := nobodyWaits_of_approach (by rwa [hstage])
    rw [row, (settle_quiet hnobody).2.1, hregistry', hloaded]
    exact (loadTables_writes (adoptSettings s i.settings true) i).2.2 m
  · subst hkind
    rw [hsettings']
    simp [handedOver, paramGet_keepZoneTable]
  · subst hkind
    rw [hsettings']
    simp [handedOver, keepZoneTable_rest]
  · subst hkind
    rw [hsettings']
    simp [handedOver, keepZoneTable_rest]
  · subst hkind
    rw [hmask']
    simp [handedOver]
  · subst hkind
    rw [hstations]
    simp [handedOver]
  · subst hkind
    rw [(settle_quiet (nobodyWaits_of_stage hnobody hstage)).2.1, hregistry']
    simp [handedOver]
  · rw [par, hsettings', ← par, ← hspeed]
    simp [u, loadCompleted, endStoreOp]
  · have hrinse : (settle u).rinse = (beginPolling (handOver s kind (goodImage? s.store))).rinse := by
      simp [u, loadCompleted, endStoreOp]
    have hpoll : par (handOver s kind (goodImage? s.store)) .poll = par (settle u) .poll := by
      rw [par, par, hsettings', hsettings]
    have hkept : (handOver s kind (goodImage? s.store)).rinse = s.rinse := by simp
    rw [hrinse, ← hpoll]
    cases hcycle : s.rinse.cycle with
    | notStarted => simp only [beginPolling, hkept, hcycle]
    | started period phase =>
      simp only [beginPolling, hkept, hcycle]
      rw [← hcycle]
  · have hentered : u.sup.mode = if isActive s .es then .halt .estop else .warming := hmode.trans (if_pos hloads)
    have hrun : u.sup.mode ≠ .run := by rw [hentered]; split <;> decide
    have hparked : u.sup.mode ≠ .parked := by rw [hentered]; split <;> decide
    rw [settle_keepsMode hrun hparked, hentered]
  · have hstays : u.sup.mode = s.sup.mode :=
      hmode.trans (if_neg fun h => by rw [h] at hhalt; cases hhalt)
    have hrun : u.sup.mode ≠ .run := fun h => by rw [← hstays, h] at hhalt; cases hhalt
    have hparked : u.sup.mode ≠ .parked := fun h => by rw [← hstays, h] at hhalt; cases hhalt
    rw [settle_keepsMode hrun hparked, hstays]
  · rw [← hforward]
    simp [u, loadCompleted, endStoreOp]
  · rw [← hreverse]
    simp [u, loadCompleted, endStoreOp]
  · simp [u, loadCompleted, endStoreOp]
  · have hmode' : u.sup.mode = if s.sup.mode = .loading then if isActive s .es then .halt .estop else .warming
        else s.sup.mode := hmode
    rcases hwhich with hloads | hhalt | hnobody
    · rw [if_pos hloads] at hmode'
      have hrun : u.sup.mode ≠ .run := by rw [hmode']; split <;> decide
      have hparked : u.sup.mode ≠ .parked := by rw [hmode']; split <;> decide
      rw [(settle_notAdmitting hrun hparked).1, hroute]
    · rw [if_neg fun h => by rw [h] at hhalt; cases hhalt] at hmode'
      have hrun : u.sup.mode ≠ .run := fun h => by rw [← hmode', h] at hhalt; cases hhalt
      have hparked : u.sup.mode ≠ .parked := fun h => by rw [← hmode', h] at hhalt; cases hhalt
      rw [(settle_notAdmitting hrun hparked).1, hroute]
    · rw [(settle_quiet (nobodyWaits_of_stage hnobody hstage)).2.2.1]
      exact hroute
  · simp [u, loadCompleted, endStoreOp]
  · apply state_ext <;> simp [u, loadCompleted, endStoreOp]

end Sys2Proof.Proofs
end

section
/-! PROOFS. The requests that move the line and that hold and release the belt (sections 6.1 and 11.2 to 11.4). -/

namespace Sys2Proof.Proofs

open Sys2Proof.Machine Sys2Proof.Laws

/-! ## GO, SP and CR -/

/-- A reply to a request that has changed the mode: what the change of mode touches is all that differs (R157). -/
theorem sendReply_changeMode_moving {s : State} {m : LineMode} (command : Text) (r : Reply)
    (hold : stopsTrays s.sup.mode = false) (hnew : stopsTrays m = false) :
    sendReply (changeMode (idleBuffer s) m) command r = { answered s command r with
      sup := (changeMode (idleBuffer s) m).sup, pacing := (changeMode (idleBuffer s) m).pacing
      belt := { s.belt with timer := (changeMode (idleBuffer s) m).belt.timer }
      returns := { s.returns with returnBelt := !isActive s .rf } } := by
  have hmoved := congrArg (sendReply · command r) (changeMode_moving (s := idleBuffer s) hold hnew)
  apply hmoved.trans
  rw [changeMode_sup]
  rfl

/-- A request that is refused, or that finds nothing to do. -/
theorem exec_answered {s : State} {command : Text} {effect : State → State × Reply} {r : Reply}
    (hquiet : linkQuiet s) (h : effect (idleBuffer s) = (idleBuffer s, r)) :
    (.next (takeRequest s command effect) : Host.Outcome State Fault Refusal) = .next (answered s command r) :=
  congrArg Host.Outcome.next (takeRequest_answered s _ _ _ hquiet h)

theorem goEffect_refused {s : State}
    (h : s.sup.mode = .loading ∨ s.sup.mode = .warming ∨ s.sup.mode.isHalt = true) :
    goEffect s = (s, .error 4) := by
  rw [goEffect]
  cases hmode : s.sup.mode <;> simp_all [LineMode.isHalt]

theorem spEffect_refused {s : State} (h : s.sup.mode = .loading ∨ s.sup.mode.isHalt = true) :
    spEffect s = (s, .error 4) := by
  rw [spEffect]
  cases hmode : s.sup.mode <;> simp_all [LineMode.isHalt]

theorem storeLoading_iff (op : StoreOp) : storeLoading op = true ↔ ∃ kind, op = .loading kind := by
  cases op <;> simp [storeLoading]

/-- Where nobody waits a HALT that ends leaves nothing to settle: WARMING finds an empty line, and RUN an occupied
one with its run-on count at 0. -/
theorem settle_haltEnded {s : State} {m : LineMode} (hnobody : nobodyWaits s = true)
    (hmode : m = if lineEmpty s then .warming else .run) : settle (changeMode s m) = changeMode s m := by
  let u := changeMode s m
  have hline : lineEmpty u = lineEmpty s := lineEmpty_of_same (by simp [u]) (by simp [u])
  have hstays : nobodyWaits u = true := nobodyWaits_of_stage hnobody (by simp [u])
  cases hempty : lineEmpty s with
  | true =>
    rw [hempty] at hmode
    exact settle_atRest hstays (hline.trans hempty) (by simp [changeMode_sup, hmode])
  | false =>
    rw [hempty] at hmode
    have hcount : u.sup.runOn = 0 := by simp [u, changeMode_sup, hmode]
    exact (settle_occupied hstays (hline.trans hempty)).trans
      (congrArg (fun x => { u with sup := { u.sup with runOn := x } }) hcount.symm)

/-- Settles O54. -/
theorem goSpAndCrMoveTheLine : Obligations.GoSpAndCrMoveTheLine := by
  intro s hquiet hnobody
  refine ⟨fun hmode hempty hrunOn hdraining => ?_, fun hmode hoccupied => ⟨?_, fun hcount => ?_⟩, fun hmode => ?_,
    fun hmode => ?_, fun hmode => ?_, fun hmode hempty => ?_, fun hload => ?_, fun hload hestop => ?_,
    fun hload hestop => ⟨fun hmode => ?_, fun hmode => ?_⟩⟩
  case refine_1 =>
    let u := changeMode (idleBuffer s) .run
    have hsup : u.sup = { s.sup with mode := .run, runOn := 0 } := changeMode_sup (idleBuffer s) .run
    have hsettle : settle u = u := by
      refine settle_stays (nobodyWaits_of_stage hnobody (by simp [u]; rfl))
        ((lineEmpty_of_same (s := s) (by simp [u]; rfl) (by simp [u]; rfl)).trans hempty)
        (by simp [drainEnds, hsup, hdraining]) ?_
      have hpar : par u .runon = par s .runon := by simp [u, par]; rfl
      simp [runOnEnds, hsup, hpar, hrunOn.ne']
    have heffect : goEffect (idleBuffer s) = (u, okay) := by
      rw [goEffect, show (idleBuffer s).sup.mode = .parked from hmode]
      exact congrArg (·, okay) hsettle
    exact ⟨_, congrArg Host.Outcome.next (takeRequest_effect hquiet heffect), hsup,
      (changeMode_beltRun (idleBuffer s) .run).trans rfl,
      sendReply_changeMode_moving _ _ (by rw [hmode]; rfl) rfl⟩
  case refine_2 =>
    let u : State := { idleBuffer s with sup := { s.sup with draining := false, runOn := 0 } }
    have hsettle : settle u = u := settle_occupied (s := u) hnobody hoccupied
    have heffect : goEffect (idleBuffer s) = (u, okay) := by
      rw [goEffect, show (idleBuffer s).sup.mode = .run from hmode]
      exact congrArg (·, okay) hsettle
    exact congrArg Host.Outcome.next (takeRequest_effect hquiet heffect)
  case refine_3 =>
    let u : State := { idleBuffer s with sup := { s.sup with draining := true } }
    have hsettle : settle u = u :=
      (settle_occupied (s := u) hnobody hoccupied).trans
        (congrArg (fun x => { u with sup := { u.sup with runOn := x } }) hcount.symm)
    have heffect : spEffect (idleBuffer s) = (u, okay) := by
      rw [spEffect, show (idleBuffer s).sup.mode = .run from hmode,
        show lineEmpty (idleBuffer s) = false from hoccupied]
      exact congrArg (·, okay) hsettle
    exact congrArg Host.Outcome.next (takeRequest_effect hquiet heffect)
  case refine_4 => exact exec_answered hquiet (goEffect_refused (s := idleBuffer s) hmode)
  case refine_5 => exact exec_answered hquiet (spEffect_refused (s := idleBuffer s) hmode)
  case refine_6 =>
    refine exec_answered hquiet (show spEffect (idleBuffer s) = (idleBuffer s, okay) from ?_)
    rcases hmode with hmode | hmode <;> simp only [spEffect, show (idleBuffer s).sup.mode = _ from hmode]
  case refine_7 =>
    let u := changeMode (idleBuffer s) .parked
    have hsup : u.sup = { s.sup with mode := .parked } := changeMode_sup (idleBuffer s) .parked
    have hsettle : settle u = u := by
      exact settle_atRest (nobodyWaits_of_stage hnobody (by simp [u]; rfl))
        ((lineEmpty_of_same (s := s) (by simp [u]; rfl) (by simp [u]; rfl)).trans hempty) (by simp [hsup])
    have heffect : spEffect (idleBuffer s) = (u, okay) := by
      rw [spEffect, show (idleBuffer s).sup.mode = .run from hmode,
        show lineEmpty (idleBuffer s) = true from hempty]
      exact congrArg (·, okay) hsettle
    exact ⟨_, congrArg Host.Outcome.next (takeRequest_effect hquiet heffect), hsup,
      (changeMode_beltRun (idleBuffer s) .parked).trans rfl,
      sendReply_changeMode_moving _ _ (by rw [hmode]; rfl) rfl⟩
  case refine_8 =>
    exact exec_answered hquiet (if_pos ((storeLoading_iff (idleBuffer s).sup.storeOp).mpr hload))
  case refine_9 =>
    have hidle : ¬ storeLoading (idleBuffer s).sup.storeOp = true := fun h =>
      ((storeLoading_iff _).mp h).elim hload
    exact exec_answered hquiet ((if_neg hidle).trans (if_pos hestop))
  case refine_10 =>
    have hidle : ¬ storeLoading (idleBuffer s).sup.storeOp = true := fun h =>
      ((storeLoading_iff _).mp h).elim hload
    exact exec_answered hquiet
      ((if_neg hidle).trans ((if_neg (Bool.eq_false_iff.mp hestop)).trans (if_neg (Bool.eq_false_iff.mp hmode))))
  case refine_11 =>
    have hidle : ¬ storeLoading (idleBuffer s).sup.storeOp = true := fun h =>
      ((storeLoading_iff _).mp h).elim hload
    let v : State := { idleBuffer s with sup := { s.sup with draining := false } }
    let m : LineMode := if lineEmpty v then .warming else .run
    have heffect : crEffect (idleBuffer s) = (changeMode v m, okay) :=
      (if_neg hidle).trans ((if_neg (Bool.eq_false_iff.mp hestop)).trans ((if_pos hmode).trans
        (congrArg (·, okay) (settle_haltEnded (s := v) hnobody rfl))))
    have hline : lineEmpty v = lineEmpty s := rfl
    have hm : m = if lineEmpty s then .warming else .run := by rw [← hline]
    have hmoves : stopsTrays m = false ∧ m.isHalt = false ∧ (m == .run) = !lineEmpty s := by
      rw [hm]
      cases lineEmpty s <;> decide
    obtain ⟨hstops, hhalt, hrun⟩ := hmoves
    refine ⟨_, congrArg Host.Outcome.next (takeRequest_effect hquiet heffect), ?_, ?_, ?_, ?_, ?_⟩
    · exact (congrArg Supervisor.mode (changeMode_sup v m)).trans hm
    · exact congrArg Supervisor.draining (changeMode_sup v m)
    · exact (changeMode_beltRun v m).trans (by rw [hrun]; rfl)
    · exact (congrArg Return.returnBelt (changeMode_returns v m)).trans (by simp only [hstops]; rfl)
    · have hreturns := changeMode_returns v m
      rw [hhalt] at hreturns
      apply state_ext
      · exact belt_ext (by simp [sendReply, v]; rfl) (by simp [sendReply, v]; rfl)
          (by simp [sendReply, v]; rfl) (by simp [sendReply, v]; rfl) rfl
      case returns =>
        refine hreturns.trans ?_
        rw [show (sendReply (changeMode v m) "CR".toList okay).returns = _ from hreturns]
        rfl
      case link => simp [sendReply]; rfl
      all_goals simp [sendReply, v, idleBuffer, answered]

/-! ## HB and HR -/

theorem holdSetEmpty_paused (s : State) :
    holdSetEmpty { s with pacing := { s.pacing with pauseCause := true } } = false := by
  simp [holdSetEmpty]

/-- What HB does: PAUSE set, and the belt stood (R93, R94, R98). -/
theorem setPause_on (s : State) (h : OutputsFollow s) :
    let t := setPause s true
    OutputsFollow t ∧ t.pacing.beltRun = false
      ∧ (holdSetEmpty s = true → t.sup.lineHeld = true ∧ t.tray.lineHeld = true) := by
  intro t
  let u : State := { s with pacing := { s.pacing with pauseCause := true } }
  obtain ⟨-, hvalve, hpoint, hencoder, hstall⟩ := h
  have hfollow : OutputsFollow t := holdsChanged_outputs (s := u) ⟨hvalve, hpoint, hencoder, hstall⟩
  have hholds : holdSetEmpty t = false := by simp [t, setPause, holdSetEmpty]
  refine ⟨hfollow, ?_, fun hempty => ?_⟩
  · rw [hfollow.run, hholds, Bool.and_false]
  · have ht : t = recomputeBelt (reportLineHeld u true) := by
      simp only [t, setPause, holdsChanged]
      rw [hempty, holdSetEmpty_paused, if_neg (by decide)]
      rfl
    rw [ht]
    simp [reportLineHeld]

/-- HR on a RUN line that PAUSE alone holds (R93, R94, R98, R103). -/
theorem setPause_off (s : State) (h : OutputsFollow s) (hmode : s.sup.mode = .run)
    (hpause : s.pacing.pauseCause = true) (hexit : s.pacing.exitCause = false) (hdoor : s.pacing.doorCause = false)
    (hrinse : s.rinse.rinse.cause = none) (hwash : s.rinse.wash.cause = none) :
    setPause s false =
      beltOn (reportLineHeld { s with pacing := { s.pacing with pauseCause := false } } false) := by
  let u : State := { s with pacing := { s.pacing with pauseCause := false } }
  have hheld : holdSetEmpty s = false := by simp [holdSetEmpty, hpause]
  have hfree : holdSetEmpty u = true := by simp [u, holdSetEmpty, hexit, hdoor, hrinse, hwash]
  have hstands : (reportLineHeld u false).pacing.beltRun = false := by
    refine h.run.trans ?_
    rw [hheld, Bool.and_false]
  have hstarts : beltShouldRun (reportLineHeld u false) = true := by
    rw [beltShouldRun, show holdSetEmpty (reportLineHeld u false) = true from hfree]
    simp [reportLineHeld, u, hmode]
  have hreport : setPause s false = recomputeBelt (reportLineHeld u (!holdSetEmpty u)) := by
    rw [setPause, holdsChanged, if_neg (by rw [hheld, hfree]; decide)]
  rw [hreport, hfree, Bool.not_true, recomputeBelt, if_neg (by rw [hstands, hstarts]; decide), if_pos hstarts]

/-- Settles O49. -/
theorem pauseStandsAndReleasesTheBelt : Obligations.PauseStandsAndReleasesTheBelt := by
  intro s hquiet houtputs
  have hfollow : OutputsFollow (idleBuffer s) := outputsFollow_of_same houtputs rfl rfl rfl rfl
  refine ⟨?_, fun hsettled hnobody hmode hoccupied hpause hexit hdoor hrinse hwash => ?_⟩
  · obtain ⟨hfollows, hstands, hreported⟩ := setPause_on (idleBuffer s) hfollow
    let u := setPause (idleBuffer s) true
    refine ⟨_, congrArg Host.Outcome.next (takeRequest_effect (t := u) (r := okay) hquiet rfl), ?_, ?_, ?_, ?_,
      hstands, hfollows.valve.trans hstands, ?_, hreported, ?_⟩
    · simp [u, sendReply, setPause]
    · simp [u, sendReply, setPause]; rfl
    · simp [u, sendReply, setPause]; rfl
    · simp [u, sendReply, setPause]; rfl
    · exact hfollows.point.trans (by rw [hstands]; rfl)
    · apply state_ext
      · apply belt_ext <;> simp [u, sendReply, setPause] <;> rfl
      case tray => apply tray_ext <;> simp [u, sendReply, setPause] <;> rfl
      case sup => apply sup_ext <;> simp [u, sendReply, setPause] <;> rfl
      all_goals simp [u, sendReply, setPause]
      all_goals rfl
  · have hcount : s.sup.runOn = 0 := hsettled.runOn.resolve_left (by rw [hoccupied]; decide)
    let u := setPause (idleBuffer s) false
    have hstarts : u = _ := setPause_off (idleBuffer s) hfollow hmode hpause hexit hdoor hrinse hwash
    have hsettle : settle u = u := by
      refine (settle_occupied (nobodyWaits_of_stage hnobody (by simp [u, setPause]; rfl))
        ((lineEmpty_of_same (s := s) (by simp [u, setPause]; rfl) (by simp [u, setPause]; rfl)).trans hoccupied)).trans
        ?_
      have hkept : u.sup.runOn = 0 := by simp [u, setPause]; exact hcount
      exact congrArg (fun x => { u with sup := { u.sup with runOn := x } }) hkept.symm
    have heffect : (fun t => (settle (setPause t false), okay)) (idleBuffer s) = (u, okay) :=
      congrArg (·, okay) hsettle
    refine congrArg Host.Outcome.next ((takeRequest_effect hquiet heffect).trans ?_)
    rw [hstarts]
    apply state_ext
    case pacing =>
      simp only [sendReply, beltOn, reportLineHeld, overrunAfter, idleBuffer, answered]
      cases s.pacing.stallTimer <;> rfl
    all_goals rfl

end Sys2Proof.Proofs
end

section
/-! PROOFS. The requests that write what they name: TK, AC, AM, SS, and those of the registry (sections 7.3, 8.4, 8.5,
9.1 and 11.6). -/

namespace Sys2Proof.Proofs

open Sys2Proof.Machine Sys2Proof.Laws

/-! ## TK -/

/-- A field of one digit from 1 to 8 asks for as many records (R111). -/
theorem takeField_digit {n : Nat} (hlow : 1 ≤ n) (hhigh : n ≤ 8) : takeField? [[digitChar n]] = some n := by
  have hall : ∀ i : Fin 8, takeField? [[digitChar (i.val + 1)]] = some (i.val + 1) := by decide
  have hn := hall ⟨n - 1, by omega⟩
  rwa [show n - 1 + 1 = n by omega] at hn

/-- Settles O51. -/
theorem tkTakesTheOldestRecords : Obligations.TkTakesTheOldestRecords := by
  intro s hquiet
  refine ⟨fun n hlow hhigh hsettled hnobody => ?_, exec_answered hquiet rfl⟩
  let u := dropRecords (idleBuffer s) n
  have hsettle : settle u = u := settle_of_line hsettled hnobody rfl rfl rfl rfl rfl rfl
  refine congrArg Host.Outcome.next (takeRequest_effect (t := u) hquiet ?_)
  rw [takeField_digit hlow hhigh]
  exact congrArg (·, _) hsettle

/-! ## AC, AM and SS -/

theorem alert_index_surjective (i : Fin 20) : ∃ k : AlertKind, k.index = i := by
  have hall : ∀ i : Fin 20, ∃ k ∈ AlertKind.all, k.index = i := by decide
  obtain ⟨k, -, hk⟩ := hall i
  exact ⟨k, hk⟩

/-- AC without a field leaves no kind latched and the ALERT output inactive (R167). -/
theorem clearAlerts_all (s : State) :
    clearAlerts s AlertKind.all = { s with
      sup := { s.sup with alerts := Vector.replicate 20 none, alertOutput := false } } := by
  have hclear : ∀ k, alert (clearAlerts s AlertKind.all) k = none := fun k =>
    (alert_clearAlerts s AlertKind.all k).trans (if_pos (alert_mem_all k))
  have halerts : (clearAlerts s AlertKind.all).sup.alerts = Vector.replicate 20 none := by
    refine Vector.ext fun i hi => ?_
    obtain ⟨k, hk⟩ := alert_index_surjective ⟨i, hi⟩
    have hi : i = k.index.val := by rw [hk]
    subst hi
    rw [Vector.getElem_replicate]
    exact hclear k
  have houtput : (clearAlerts s AlertKind.all).sup.alertOutput = false := by
    rw [Bool.eq_false_iff]
    intro hactive
    obtain ⟨k, hlatched, -⟩ := (clearAlerts_alertOutputRight s AlertKind.all).mp hactive
    rw [hclear k] at hlatched
    cases hlatched
  apply state_ext
  case sup => exact sup_ext rfl rfl rfl rfl halerts rfl houtput rfl rfl
  all_goals rfl

/-- The mask of a list holds exactly its kinds (R167). -/
theorem maskOf_getElem (kinds : List AlertKind) (k : AlertKind) : (maskOf kinds)[k.index] = true ↔ k ∈ kinds := by
  have hplace : AlertKind.all[k.index.val]? = some k := by cases k <;> rfl
  rw [Fin.getElem_fin, maskOf, vectorOf_getElem, List.getElem?_map, hplace]
  simp

theorem alertText_ne_dash (k : AlertKind) : alertText k ≠ dash := by cases k <;> decide

/-- One or more names are read as the kinds they name (R167). -/
theorem maskFields_names {kinds : List AlertKind} (h : kinds ≠ []) :
    maskFields? (kinds.map alertText) = some kinds := by
  have hdash : kinds.map alertText ≠ [dash] := by
    intro hone
    cases kinds with
    | nil => cases hone
    | cons k rest => exact alertText_ne_dash k (List.cons.inj hone).1
  have hsome : kinds.map alertText ≠ [] := by simpa using h
  rw [maskFields?, if_neg hdash, if_neg hsome]
  exact allFields_map _ _ alertNamed_alertText kinds

/-- Settles O50. -/
theorem alertsMaskAndStationsAreSet : Obligations.AlertsMaskAndStationsAreSet := by
  intro s hquiet
  refine ⟨?_, fun k => ?_, exec_answered hquiet rfl, fun kinds hsome hidle => ?_, fun kinds hsome hbusy => ?_,
    fun fields k e hfields => ?_⟩
  · have hexec : exec (.ac []) s
        = .next (sendReply (clearAlerts (idleBuffer s) AlertKind.all) "AC".toList okay) :=
      congrArg Host.Outcome.next (takeRequest_quiet s _ _ hquiet)
    rw [hexec, clearAlerts_all]
    rfl
  · let u := clearAlerts (idleBuffer s) [k]
    have hread : allFields? alertNamed? [alertText k] = some [k] :=
      allFields_map _ _ alertNamed_alertText [k]
    have hexec : exec (.ac [alertText k]) s = .next (sendReply u "AC".toList okay) := by
      refine congrArg Host.Outcome.next (takeRequest_effect hquiet ?_)
      simp only [hread]
      rfl
    refine ⟨_, hexec, ?_, fun j hj => ?_, clearAlerts_alertOutputRight (idleBuffer s) [k], rfl⟩
    · exact (alert_clearAlerts (idleBuffer s) [k] k).trans (if_pos (List.mem_singleton_self k))
    · exact (alert_clearAlerts (idleBuffer s) [k] j).trans (if_neg (by simpa using hj))
  · let u := setMask (idleBuffer s) (maskOf kinds)
    have hexec : exec (.am (kinds.map alertText)) s = .next (sendReply u "AM".toList okay) := by
      refine congrArg Host.Outcome.next (takeRequest_effect hquiet ?_)
      simp only [maskFields_names hsome, storeBusy_idle (s := idleBuffer s) hidle]
      rfl
    exact ⟨_, hexec, maskOf_getElem kinds, refreshAlertOutput_right _, rfl⟩
  · refine exec_answered hquiet ?_
    simp only [maskFields_names hsome, (storeBusy_iff (idleBuffer s)).mpr hbusy, if_true]
  · by_cases hbusy : s.sup.storeOp ≠ .none
    · rw [if_pos hbusy]
      refine exec_answered hquiet ?_
      simp only [hfields, (storeBusy_iff (idleBuffer s)).mpr hbusy, if_true]
    · rw [if_neg hbusy]
      have hidle := storeBusy_idle (s := idleBuffer s) (not_not.mp hbusy)
      by_cases hlow : e.capacity < occupancy s k
      · rw [if_pos hlow]
        refine exec_answered hquiet ?_
        simp only [hfields, hidle]
        exact if_pos hlow
      · rw [if_neg hlow]
        refine congrArg Host.Outcome.next (takeRequest_effect (t := setStation (idleBuffer s) k e) hquiet ?_)
        simp only [hfields, hidle]
        exact if_neg hlow

/-! ## EN, DR, RT and MK -/

/-- A row written where nobody waits leaves nothing to settle (R124 to R126). -/
theorem settle_setRow {s : State} (hsettled : Settled s) (hnobody : nobodyWaits s = true) (n : Rack) (w : Option Row) :
    settle (setRow (idleBuffer s) n w) = setRow (idleBuffer s) n w :=
  settle_of_line hsettled hnobody rfl rfl rfl rfl rfl rfl

theorem heldPlace_iff (p : Place) :
    heldPlace p = true ↔ p = .admitting ∨ p = .inTunnel ∨ p = .atExit ∨ p = .onReturn := by
  cases p <;> simp [heldPlace]

/-- A rack at the stop or in a collection cannot be marked (R127). -/
theorem markable_iff (p : Place) :
    markable p = false ↔ p = .queued ∨ p = .admitting ∨ p = .inTunnel ∨ p = .atExit ∨ p = .onReturn := by
  cases p <;> simp [markable]

/-- MK of an enrolled rack (R127). -/
theorem exec_mk {s : State} {n : Rack} {w : Row} {f : Text} {place : Place} (hquiet : linkQuiet s)
    (hrow : row s n = some w) (hplace : markField? f = some place) :
    exec (.mk [rackText n, f]) s = .next
      (if w.place = .queued ∨ w.place = .admitting ∨ w.place = .inTunnel ∨ w.place = .atExit
          ∨ w.place = .onReturn then
        answered s "MK".toList (.error 6)
      else answered { s with registry := s.registry.set n (some { w with place := place }) } "MK".toList (.ok [])) := by
  have hrow' : row (idleBuffer s) n = some w := hrow
  by_cases hstays : markable w.place = false
  · rw [if_pos ((markable_iff w.place).mp hstays)]
    refine exec_answered hquiet ?_
    simp only [rackField_rackText, hplace, hrow']
    exact if_neg (Bool.eq_false_iff.mp hstays)
  · rw [if_neg fun h => hstays ((markable_iff w.place).mpr h)]
    refine congrArg Host.Outcome.next
      (takeRequest_effect (t := setRow (idleBuffer s) n (some { w with place := place })) (r := okay) hquiet ?_)
    simp only [rackField_rackText, hplace, hrow']
    refine (if_pos (by simpa using hstays)).trans ?_
    rw [setPlace, hrow']

/-- Settles O52. -/
theorem registryCommandsChangeOneRow : Obligations.RegistryCommandsChangeOneRow := by
  intro s n hquiet hsettled hnobody
  have hrack : oneRack? [rackText n] = some n := rackField_rackText n
  refine ⟨fun c => ?_, fun w hrow hidle hheld => ?_, fun w hrow hidle h1 h2 h3 h4 => ?_, fun hbusy => ?_,
    fun hrow hidle => ?_, fun w hrow => ⟨exec_mk hquiet hrow rfl, exec_mk hquiet hrow rfl⟩⟩
  · by_cases hbusy : s.sup.storeOp ≠ .none
    · rw [if_pos hbusy]
      refine exec_answered hquiet ?_
      simp only [rackField_rackText, classField_classText, (storeBusy_iff (idleBuffer s)).mpr hbusy, if_true]
    · rw [if_neg hbusy]
      have hidle := storeBusy_idle (s := idleBuffer s) (not_not.mp hbusy)
      by_cases henrolled : (row s n).isSome
      · rw [if_pos henrolled]
        refine exec_answered hquiet ?_
        simp only [rackField_rackText, classField_classText, hidle]
        exact if_pos henrolled
      · rw [if_neg henrolled]
        refine congrArg Host.Outcome.next (takeRequest_effect (t := enrol (idleBuffer s) n c) hquiet ?_)
        simp only [rackField_rackText, classField_classText, hidle]
        exact (if_neg henrolled).trans (congrArg (·, okay) (settle_setRow hsettled hnobody n _))
  · have hplace := (heldPlace_iff w.place).mpr hheld
    have hidle' := storeBusy_idle (s := idleBuffer s) hidle
    constructor
    all_goals
      refine exec_answered hquiet ?_
      simp only [hrack, hidle', show row (idleBuffer s) n = some w from hrow, hplace]
      rfl
  · have hplace : heldPlace w.place = false := by
      rw [Bool.eq_false_iff, Ne, heldPlace_iff]
      tauto
    have hidle' := storeBusy_idle (s := idleBuffer s) hidle
    constructor
    all_goals
      refine congrArg Host.Outcome.next (takeRequest_effect (t := setRow (idleBuffer s) n _) hquiet ?_)
      simp only [hrack, hidle', show row (idleBuffer s) n = some w from hrow, hplace]
      exact congrArg (·, okay) (settle_setRow hsettled hnobody n _)
  · have hbusy' := (storeBusy_iff (idleBuffer s)).mpr hbusy
    constructor
    all_goals
      refine exec_answered hquiet ?_
      simp only [hrack, hbusy', if_true]
  · have hidle' := storeBusy_idle (s := idleBuffer s) hidle
    refine ⟨?_, ?_, ?_⟩
    · refine exec_answered hquiet ?_
      simp only [hrack, hidle', show row (idleBuffer s) n = none from hrow]
      rfl
    · refine exec_answered hquiet ?_
      simp only [hrack, hidle', show row (idleBuffer s) n = none from hrow]
      rfl
    · refine exec_answered hquiet ?_
      have hplace : markField? "LOST".toList = some .lost := rfl
      simp only [rackField_rackText, hplace, show row (idleBuffer s) n = none from hrow]

end Sys2Proof.Proofs
end

section
/-! PROOFS. The supervisor link (chapter 12): the reports, and the lines that are no request for this card. -/

namespace Sys2Proof.Proofs

open Sys2Proof.Machine Sys2Proof.Laws

/-! ## Reports -/

/-- Settles O48. -/
theorem reportsChangeOnlyTheLink : Obligations.ReportsChangeOnlyTheLink := by
  intro s
  refine ⟨fun hquiet => ⟨exec_answered hquiet rfl, exec_answered hquiet rfl, exec_answered hquiet rfl,
    exec_answered hquiet rfl, exec_answered hquiet rfl, fun n => ?_, exec_answered hquiet rfl, fun n w hrow => ?_,
    fun n hrow => ?_, fun n => ?_, fun code fields hcode => ?_⟩, rfl⟩
  · refine exec_answered hquiet ?_
    have hread : reportedNames? [paramNameText n] = some [n] := allFields_map _ _ paramNamed_paramNameText [n]
    simp only [hread]
    rfl
  · refine exec_answered hquiet ?_
    simp only [rowRequest?, rackField_rackText, Option.map_some, show row (idleBuffer s) n = some w from hrow]
  · refine exec_answered hquiet ?_
    simp only [rowRequest?, rackField_rackText, Option.map_some, show row (idleBuffer s) n = none from hrow]
  · refine exec_answered hquiet ?_
    have hcount : rangedField? 0 999999 ['0'] = some 0 := by decide
    simp only [rackField_rackText, hcount]
    rfl
  · have hunknown : ¬ Config.commandCodes.contains code = true := by simpa using hcode
    exact (congrArg Host.Outcome.next (if_neg hunknown)).trans (exec_answered hquiet rfl)

/-! ## Receiving a line (R172) -/

/-- Characters that neither end a line nor begin one. -/
def Plain (cs : Text) : Prop := ∀ c ∈ cs, c ≠ '@' ∧ c ≠ '\r'

theorem plain_cons {c : Char} {cs : Text} : Plain (c :: cs) ↔ (c ≠ '@' ∧ c ≠ '\r') ∧ Plain cs := by
  simp [Plain]

theorem plain_append {cs ds : Text} (hcs : Plain cs) (hds : Plain ds) : Plain (cs ++ ds) := fun c hc =>
  (List.mem_append.mp hc).elim (hcs c) (hds c)

theorem isOneLine_iff (line : Text) : isOneLine line = true ↔ ∃ cs, line = '@' :: cs ∧ Plain cs := by
  cases line <;> simp [isOneLine, Plain, and_comm]

theorem receiveText_cons (l : Link) (c : Char) (cs : Text) :
    receiveText l (c :: cs) = receiveText (receiveCharacter l c) cs := rfl

theorem receiveCharacter_begins (l : Link) : receiveCharacter l '@' = { l with buffer := .collecting ['@'] } := rfl

theorem receiveCharacter_idle {l : Link} {c : Char} (hplain : c ≠ '@' ∧ c ≠ '\r') (hidle : l.buffer = .idle) :
    receiveCharacter l c = l := by
  simp [receiveCharacter, hplain, hidle]

theorem receiveCharacter_collecting {l : Link} {c : Char} {cs : Text} (hplain : c ≠ '@' ∧ c ≠ '\r')
    (hbuffer : l.buffer = .collecting cs) :
    receiveCharacter l c =
      if 96 ≤ cs.length then { l with buffer := .idle, overlength := min 65535 (l.overlength + 1) }
      else { l with buffer := .collecting (cs ++ [c]) } := by
  simp [receiveCharacter, hplain, hbuffer]
  rfl

theorem receiveText_idle {l : Link} {cs : Text} (hplain : Plain cs) (hidle : l.buffer = .idle) :
    receiveText l cs = l := by
  induction cs with
  | nil => rfl
  | cons c cs ih =>
    obtain ⟨hc, hcs⟩ := plain_cons.mp hplain
    rw [receiveText_cons, receiveCharacter_idle hc hidle, ih hcs]

/-- Characters that fit the buffer are collected. -/
theorem receiveText_collects {l : Link} {pre cs : Text} (hplain : Plain cs) (hbuffer : l.buffer = .collecting pre)
    (hfits : pre.length + cs.length ≤ 96) : receiveText l cs = { l with buffer := .collecting (pre ++ cs) } := by
  induction cs generalizing l pre with
  | nil => rw [List.append_nil, ← hbuffer]; rfl
  | cons c cs ih =>
    obtain ⟨hc, hcs⟩ := plain_cons.mp hplain
    rw [List.length_cons] at hfits
    have hroom : ¬ 96 ≤ pre.length := by omega
    rw [receiveText_cons, receiveCharacter_collecting hc hbuffer, if_neg hroom,
      ih (l := { l with buffer := .collecting (pre ++ [c]) }) hcs rfl (by simp; omega), List.append_assoc]
    rfl

/-- Characters that do not fit the buffer make one overlength line, and what follows the 97th is discarded. -/
theorem receiveText_overlength {l : Link} {pre cs : Text} (hplain : Plain cs) (hbuffer : l.buffer = .collecting pre)
    (hpre : pre.length ≤ 96) (hlong : 96 < pre.length + cs.length) :
    receiveText l cs = { l with buffer := .idle, overlength := min 65535 (l.overlength + 1) } := by
  induction cs generalizing l pre with
  | nil => simp at hlong; omega
  | cons c cs ih =>
    obtain ⟨hc, hcs⟩ := plain_cons.mp hplain
    rw [List.length_cons] at hlong
    rw [receiveText_cons, receiveCharacter_collecting hc hbuffer]
    by_cases hfull : 96 ≤ pre.length
    · rw [if_pos hfull, receiveText_idle hcs rfl]
    · rw [if_neg hfull, ih (l := { l with buffer := .collecting (pre ++ [c]) }) hcs rfl (by simp; omega)
        (by simp; omega)]

theorem receiveReturn_collecting (l : Link) (line : Text) :
    receiveReturn { l with buffer := .collecting line } = { countLine l line with buffer := .idle } := by
  change { countLine { l with buffer := .collecting line } line with buffer := .idle } = _
  unfold countLine
  cases judgeLine l.address line <;> simp only

/-- A complete line at a quiet link is judged, and the buffer is idle (R172, R173). -/
theorem exec_lineDiscarded {s : State} {line : Text} (hquiet : linkQuiet s) (hline : isOneLine line = true)
    (hfits : line.length ≤ 96) :
    exec (.lineDiscarded line) s = .next { s with link := { countLine s.link line with buffer := .idle } } := by
  obtain ⟨cs, rfl, hplain⟩ := (isOneLine_iff line).mp hline
  have hon : receiverOn s = true := by simp [receiverOn, show s.link.transmitter = .quiet from hquiet]
  have hlength : ['@'].length + cs.length ≤ 96 := by simpa [Nat.add_comm] using hfits
  have hcollected : receiveText s.link ('@' :: cs) = { s.link with buffer := .collecting ('@' :: cs) } :=
    receiveText_collects (l := { s.link with buffer := .collecting ['@'] }) hplain rfl hlength
  have hreceived : receiveText s.link ('@' :: cs ++ ['\r'])
      = { countLine s.link ('@' :: cs) with buffer := .idle } := by
    rw [receiveText, List.foldl_append]
    change receiveReturn (receiveText s.link ('@' :: cs)) = _
    rw [hcollected]
    exact receiveReturn_collecting s.link ('@' :: cs)
  refine (congrArg Host.Outcome.next (if_pos hon)).trans ?_
  rw [hreceived]

theorem exec_overlengthLine {s : State} {line : Text} (hquiet : linkQuiet s) (hline : isOneLine line = true)
    (hlong : 96 < line.length) :
    exec (.overlengthLine line) s = .next
      { s with link := { s.link with buffer := .idle, overlength := min 65535 (s.link.overlength + 1) } } := by
  obtain ⟨cs, rfl, hplain⟩ := (isOneLine_iff line).mp hline
  have hon : receiverOn s = true := by simp [receiverOn, show s.link.transmitter = .quiet from hquiet]
  have hlength : 96 < ['@'].length + cs.length := by simpa [Nat.add_comm] using hlong
  have hreceived := receiveText_overlength (l := { s.link with buffer := .collecting ['@'] }) hplain rfl (by decide)
    hlength
  exact congrArg Host.Outcome.next ((if_pos hon).trans (congrArg (fun l => { s with link := l }) hreceived))

/-! ## The form of a line (R173) -/

/-- The fields of a request as its line carries them. -/
def fieldsText (fields : List Text) : Text := fields.flatMap fun f => ' ' :: f

theorem fieldWellFormed_iff (f : Text) :
    fieldWellFormed f = true ↔ f ≠ [] ∧ ∀ c ∈ f, c ≠ ' ' ∧ c ≠ '\r' ∧ c ≠ '@' := by
  simp [fieldWellFormed, and_assoc]

theorem fieldsWellSpaced_space (text : Text) (due : Bool) :
    fieldsWellSpaced (' ' :: text) due = (!due && fieldsWellSpaced text true) := rfl

theorem fieldsWellSpaced_other {c : Char} (text : Text) (due : Bool) (h : c ≠ ' ') :
    fieldsWellSpaced (c :: text) due = fieldsWellSpaced text false := by
  simp [fieldsWellSpaced]

/-- A field is passed over character by character. -/
theorem fieldsWellSpaced_field {f : Text} (text : Text) (hplain : ∀ c ∈ f, c ≠ ' ') :
    fieldsWellSpaced (f ++ text) false = fieldsWellSpaced text false := by
  induction f with
  | nil => rfl
  | cons c f ih =>
    obtain ⟨hc, hf⟩ := List.forall_mem_cons.mp hplain
    rw [List.cons_append, fieldsWellSpaced_other _ _ hc, ih hf]

theorem fieldsWellSpaced_fieldsText {fields : List Text} (h : ∀ f ∈ fields, fieldWellFormed f = true) :
    fieldsWellSpaced (fieldsText fields) false = true := by
  induction fields with
  | nil => rfl
  | cons f fields ih =>
    obtain ⟨hf, hfields⟩ := List.forall_mem_cons.mp h
    obtain ⟨hsome, hplain⟩ := (fieldWellFormed_iff f).mp hf
    cases f with
    | nil => exact absurd rfl hsome
    | cons c f =>
      obtain ⟨hc, hcs⟩ := List.forall_mem_cons.mp hplain
      have hrest := fieldsWellSpaced_field (fieldsText fields) fun d hd => (hcs d hd).1
      change fieldsWellSpaced (' ' :: (c :: (f ++ fieldsText fields))) false = true
      rw [fieldsWellSpaced_space, fieldsWellSpaced_other _ _ hc.1, hrest, ih hfields]
      rfl

/-- Fields as a line carries them are in the form of R173. -/
theorem fieldsFormed_fieldsText {fields : List Text} (h : ∀ f ∈ fields, fieldWellFormed f = true) :
    fieldsFormed (fieldsText fields) = true := by
  have hspaced := fieldsWellSpaced_fieldsText h
  cases fields with
  | nil => rfl
  | cons f fields => exact hspaced

/-- A well spaced text is the rest of a field and the fields that follow it. -/
theorem exists_fields_of_wellSpaced {text : Text} {due : Bool} (hplain : Plain text)
    (h : fieldsWellSpaced text due = true) :
    ∃ f fields, text = f ++ fieldsText fields ∧ (due = true → f ≠ []) ∧ (∀ c ∈ f, c ≠ ' ' ∧ c ≠ '\r' ∧ c ≠ '@')
      ∧ ∀ g ∈ fields, fieldWellFormed g = true := by
  induction text generalizing due with
  | nil =>
    have hdue : due = false := by simpa [fieldsWellSpaced] using h
    exact ⟨[], [], rfl, (fun h => by rw [hdue] at h; cases h), (fun _ hc => by cases hc), (fun _ hg => by cases hg)⟩
  | cons c text ih =>
    obtain ⟨⟨hat, hreturn⟩, htext⟩ := plain_cons.mp hplain
    by_cases hspace : c = ' '
    · subst hspace
      rw [fieldsWellSpaced_space, Bool.and_eq_true, Bool.not_eq_true'] at h
      obtain ⟨f, fields, hcut, hsome, hf, hfields⟩ := ih htext h.2
      refine ⟨[], f :: fields, by rw [hcut]; rfl, (fun hdue => by rw [h.1] at hdue; cases hdue),
        (fun _ hc => by cases hc), ?_⟩
      exact List.forall_mem_cons.mpr ⟨(fieldWellFormed_iff f).mpr ⟨hsome rfl, hf⟩, hfields⟩
    · rw [fieldsWellSpaced_other _ _ hspace] at h
      obtain ⟨f, fields, hcut, -, hf, hfields⟩ := ih htext h
      exact ⟨c :: f, fields, by rw [hcut]; rfl, fun _ => List.cons_ne_nil c f,
        List.forall_mem_cons.mpr ⟨⟨hspace, hreturn, hat⟩, hf⟩, hfields⟩

theorem exists_fields_of_formed {text : Text} (hplain : Plain text) (h : fieldsFormed text = true) :
    ∃ fields, text = fieldsText fields ∧ ∀ g ∈ fields, fieldWellFormed g = true := by
  unfold fieldsFormed at h
  split at h
  case h_1 => exact ⟨[], rfl, fun _ hg => by cases hg⟩
  case h_2 rest =>
    obtain ⟨f, fields, hcut, hsome, hf, hfields⟩ := exists_fields_of_wellSpaced (plain_cons.mp hplain).2 h
    refine ⟨f :: fields, by rw [hcut]; rfl, ?_⟩
    exact List.forall_mem_cons.mpr ⟨(fieldWellFormed_iff f).mpr ⟨hsome rfl, hf⟩, hfields⟩
  case h_3 => cases h

@[simp] theorem hexValue_hexChar (n : Nat) : hexValue? (hexChar n) = some (n % 16) := by
  have hall : ∀ d : Fin 16, hexValue? (if d.val < 10 then Char.ofNat (48 + d.val) else Char.ofNat (55 + d.val))
      = some d.val := by decide
  exact hall ⟨n % 16, Nat.mod_lt _ (by decide)⟩

theorem eq_hexChar_of_hexValue {c : Char} {n : Nat} (h : hexValue? c = some n) : n < 16 ∧ c = hexChar n := by
  unfold hexValue? at h
  split at h
  case isTrue hrange =>
    have hn : c.toNat - 48 = n := Option.some.inj h
    refine ⟨by omega, ?_⟩
    rw [hexChar, if_pos (by omega), show 48 + n % 16 = c.toNat by omega, Char.ofNat_toNat]
  case isFalse =>
    split at h
    case isTrue hrange =>
      have hn : c.toNat - 55 = n := Option.some.inj h
      refine ⟨by omega, ?_⟩
      rw [hexChar, if_neg (by omega), show 55 + n % 16 = c.toNat by omega, Char.ofNat_toNat]
    case isFalse => cases h

/-- A request line is in the form of R173, and its address and check are read back. -/
theorem lineForm_requestLine {address check : Nat} {command : Text} {fields : List Text} (haddress : address < 100)
    (hcheck : check < 256) (hcommand : command.length = 2) (hfields : ∀ f ∈ fields, fieldWellFormed f = true) :
    lineForm? (requestLine address command fields check)
      = some (address, check, checkedText address command fields) := by
  obtain ⟨c1, c2, rfl⟩ := List.length_eq_two.mp hcommand
  have hline : requestLine address [c1, c2] fields check
      = '@' :: digitChar (address / 10) :: digitChar address :: ' ' :: c1 :: c2
        :: (fieldsText fields ++ ['*', hexChar (check / 16), hexChar check]) := by
    simp [requestLine, addressText, hexText, fieldsText]
  have hlength : (fieldsText fields ++ ['*', hexChar (check / 16), hexChar check]).length - 3
      = (fieldsText fields).length := by simp
  rw [hline]
  simp only [lineForm?, hlength, List.take_left, List.drop_left, digitValue_digitChar, hexValue_hexChar,
    fieldsFormed_fieldsText hfields, if_true]
  have haddress' : 10 * (address / 10 % 10) + address % 10 = address := by omega
  have hcheck' : 16 * (check / 16 % 16) + check % 16 = check := by omega
  rw [haddress', hcheck']
  rfl

/-- A line in the form of R173 is a request line. -/
theorem exists_request_of_lineForm {line : Text} {form : Nat × Nat × Text} (hline : isOneLine line = true)
    (h : lineForm? line = some form) :
    ∃ (address check : Nat) (command : Text) (fields : List Text), address < 100 ∧ check < 256 ∧ command.length = 2
      ∧ (∀ f ∈ fields, fieldWellFormed f = true) ∧ line = requestLine address command fields check := by
  obtain ⟨cs, hcs, hplain⟩ := (isOneLine_iff line).mp hline
  unfold lineForm? at h
  split at h
  case h_2 => cases h
  case h_1 a1 a2 c1 c2 rest =>
    dsimp only at h
    split at h
    case h_2 => cases h
    case h_1 d1 d2 h1 h2 hd1 hd2 hend =>
      split at h
      case h_2 => cases h
      case h_1 x1 x2 hx1 hx2 =>
        split at h
        case isFalse => cases h
        case isTrue hformed =>
          obtain ⟨hd1lt, rfl⟩ := eq_digitChar_of_digitValue hd1
          obtain ⟨hd2lt, rfl⟩ := eq_digitChar_of_digitValue hd2
          obtain ⟨hx1lt, rfl⟩ := eq_hexChar_of_hexValue hx1
          obtain ⟨hx2lt, rfl⟩ := eq_hexChar_of_hexValue hx2
          have hrest : Plain (rest.take (rest.length - 3)) := by
            intro c hc
            refine hplain c ?_
            rw [← (List.cons.inj hcs).2]
            simp [List.mem_of_mem_take hc]
          obtain ⟨fields, hcut, hfields⟩ := exists_fields_of_formed hrest hformed
          refine ⟨10 * d1 + d2, 16 * x1 + x2, [c1, c2], fields, by omega, by omega, rfl, hfields, ?_⟩
          have hjoin : rest = fieldsText fields ++ ['*', hexChar x1, hexChar x2] := by
            rw [← hcut, ← hend, List.take_append_drop]
          have haddress : digitChar ((10 * d1 + d2) / 10) = digitChar d1
              ∧ digitChar (10 * d1 + d2) = digitChar d2 := by
            rw [show (10 * d1 + d2) / 10 = d1 by omega, digitChar, digitChar,
              show (10 * d1 + d2) % 10 = d2 % 10 by omega]
            exact ⟨rfl, rfl⟩
          have hcheck : hexChar ((16 * x1 + x2) / 16) = hexChar x1 ∧ hexChar (16 * x1 + x2) = hexChar x2 := by
            rw [show (16 * x1 + x2) / 16 = x1 by omega, hexChar, hexChar, hexChar,
              show (16 * x1 + x2) % 16 = x2 % 16 by omega]
            exact ⟨rfl, rfl⟩
          simp [requestLine, addressText, hexText, haddress, hcheck, hjoin, fieldsText]

/-- A request line is one line: no part of it ends it or begins another (R172, R173). -/
theorem isOneLine_requestLine {address check : Nat} {command : Text} {fields : List Text} (hcommand : Plain command)
    (hfields : ∀ f ∈ fields, fieldWellFormed f = true) :
    isOneLine (requestLine address command fields check) = true := by
  have hdigit : ∀ n, digitChar n ≠ '@' ∧ digitChar n ≠ '\r' := by
    intro n
    have hall : ∀ d : Fin 10, Char.ofNat (48 + d.val) ≠ '@' ∧ Char.ofNat (48 + d.val) ≠ '\r' := by decide
    exact hall ⟨n % 10, Nat.mod_lt _ (by decide)⟩
  have hhex : ∀ n, hexChar n ≠ '@' ∧ hexChar n ≠ '\r' := by
    intro n
    have hall : ∀ d : Fin 16, (if d.val < 10 then Char.ofNat (48 + d.val) else Char.ofNat (55 + d.val)) ≠ '@'
        ∧ (if d.val < 10 then Char.ofNat (48 + d.val) else Char.ofNat (55 + d.val)) ≠ '\r' := by decide
    exact hall ⟨n % 16, Nat.mod_lt _ (by decide)⟩
  have htexts : Plain (fieldsText fields) := by
    intro c hc
    obtain ⟨f, hf, hmem⟩ := List.mem_flatMap.mp hc
    rcases List.mem_cons.mp hmem with rfl | hchar
    · decide
    · obtain ⟨-, hreturn, hat⟩ := ((fieldWellFormed_iff f).mp (hfields f hf)).2 c hchar
      exact ⟨hat, hreturn⟩
  have hline : requestLine address command fields check = '@' :: ([digitChar (address / 10), digitChar address, ' ']
      ++ (command ++ (fieldsText fields ++ ['*', hexChar (check / 16), hexChar check]))) := by
    simp [requestLine, addressText, hexText, fieldsText]
  refine (isOneLine_iff _).mpr ⟨_, hline, ?_⟩
  have haddress : Plain [digitChar (address / 10), digitChar address, ' '] := by
    simp [Plain, hdigit]
  have hcheck : Plain ['*', hexChar (check / 16), hexChar check] := by
    simp [Plain, hhex]
  exact plain_append haddress (plain_append hcommand (plain_append htexts hcheck))

theorem countLine_badCheck {l : Link} {line : Text} (h : judgeLine l.address line = .badCheck) :
    countLine l line = { l with badCheck := min 65535 (l.badCheck + 1) } := by
  rw [countLine, h]
  rfl

theorem countLine_otherAddress {l : Link} {line : Text} (h : judgeLine l.address line = .otherAddress) :
    countLine l line = { l with otherAddress := min 65535 (l.otherAddress + 1) } := by
  rw [countLine, h]
  rfl

/-- Settles O47. -/
theorem discardedLinesAreCounted : Obligations.DiscardedLinesAreCounted := by
  intro s hquiet
  refine ⟨fun cs hwf => ?_, fun line hwf hform => ?_, fun address check command fields hcommand hplain hfields
    haddress hcheck hfits => ?_⟩
  · rw [Instr.wellFormed, Bool.and_eq_true, decide_eq_true_iff] at hwf
    exact exec_overlengthLine hquiet hwf.1 hwf.2
  · rw [Instr.wellFormed, Bool.and_eq_true, decide_eq_true_iff] at hwf
    obtain ⟨hline, hfits⟩ := hwf
    have hnone : lineForm? line = none := by
      refine Option.eq_none_iff_forall_ne_some.mpr fun form hsome => ?_
      obtain ⟨address, check, command, fields, haddress, hcheck, hcommand, hfields, hrequest⟩ :=
        exists_request_of_lineForm hline hsome
      exact hform address check command fields haddress hcheck hcommand hfields hrequest
    have hjudged : judgeLine s.link.address line = .badCheck := by rw [judgeLine, hnone]
    rw [exec_lineDiscarded hquiet hline hfits, countLine_badCheck hjudged]
  · have hform := lineForm_requestLine haddress hcheck hcommand hfields
    have hline : isOneLine (requestLine address command fields check) = true :=
      isOneLine_requestLine hplain hfields
    rw [exec_lineDiscarded hquiet hline hfits]
    refine ⟨fun hother => ?_, fun hown hwrong => ?_⟩
    · have hjudged : judgeLine s.link.address (requestLine address command fields check) = .otherAddress := by
        simp only [judgeLine, hform]
        exact if_pos hother
      rw [countLine_otherAddress hjudged]
    · have hjudged : judgeLine s.link.address (requestLine address command fields check) = .badCheck := by
        simp only [judgeLine, hform]
        exact (if_neg (not_not.mpr hown)).trans (if_neg hwrong)
      rw [countLine_badCheck hjudged]

end Sys2Proof.Proofs
end

section
/-! PROOFS. PS (section 12.3): the settings after a request's writes, the checks of a request, and what new settings
lead to. -/

namespace Sys2Proof.Proofs

open Sys2Proof.Machine Sys2Proof.Laws

/-! ## The settings after a request's writes -/

theorem param_index_surjective (i : Fin 52) : ∃ p : Param, p.index = i := by
  have hall : ∀ i : Fin 52, ∃ p ∈ Param.all, p.index = i := by decide
  obtain ⟨p, -, hp⟩ := hall i
  exact ⟨p, hp⟩

/-- Settings are their numbers, their polarities and their class. -/
theorem settings_ext {c d : Settings} (hnumbers : ∀ p, paramGet c p = paramGet d p) (hpol : c.pol = d.pol)
    (hclass : c.autoClass = d.autoClass) : c = d := by
  have hvalues : c.values = d.values := by
    refine Vector.ext fun i hi => ?_
    obtain ⟨p, hp⟩ := param_index_surjective ⟨i, hi⟩
    have hplace : i = p.index.val := by rw [hp]
    subst hplace
    exact hnumbers p
  cases c
  cases d
  simp_all

/-- What one part of the settings holds after a request's writes: what the write that names it stores, since no
name stands twice, or what it held (R176). -/
theorem read_foldl_applyWrite {α β : Type} (read : Settings → β) (written? : ParamWrite → Option α) (store : α → β)
    (name : ParamName) (hnames : ∀ w a, written? w = some a → w.name = name)
    (hstores : ∀ w a c, written? w = some a → read (applyWrite c w) = store a)
    (hkeeps : ∀ w c, written? w = none → read (applyWrite c w) = read c) {ws : List ParamWrite}
    (hnodup : (ws.map ParamWrite.name).Nodup) (c : Settings) :
    read (ws.foldl applyWrite c) = ((ws.findSome? written?).map store).getD (read c) := by
  induction ws generalizing c with
  | nil => rfl
  | cons w ws ih =>
    obtain ⟨hfresh, hrest⟩ := List.nodup_cons.mp hnodup
    rw [List.foldl_cons, ih hrest, List.findSome?_cons]
    cases hw : written? w with
    | none => rw [hkeeps w c hw]
    | some a =>
      have hnone : ws.findSome? written? = none := by
        refine List.findSome?_eq_none_iff.mpr fun v hv => Option.eq_none_iff_forall_ne_some.mpr fun b hb => ?_
        exact hfresh ((hnames w a hw).trans (hnames v b hb).symm ▸ List.mem_map_of_mem hv)
      rw [hnone, hstores w a c hw]
      rfl

/-- The clamp into a range, by its two bounds. -/
theorem clampInto_eq {lo hi : Nat} (h : lo ≤ hi) (v : Int) :
    clampInto lo hi v = (max (lo : Int) (min v (hi : Int))).toNat := by
  unfold clampInto
  split
  · omega
  · split <;> omega

theorem paramRange_le (p : Param) : (paramRange p).1 ≤ (paramRange p).2 := by cases p <;> decide

theorem storedValue_eq (p : Param) (v : Int) :
    storedValue p v =
      if paramIsZone p = true ∧ p ≠ .xexit then v.toNat
      else
        let n := (max ((paramRange p).1 : Int) (min v ((paramRange p).2 : Int))).toNat
        if p = .poll then n / 100 * 100 else n := by
  rw [storedValue, clampInto_eq (paramRange_le p)]

/-- A number before two parameters bound each other (R71, R175). -/
theorem paramGet_foldl_applyWrite {ws : List ParamWrite} (hnodup : (ws.map ParamWrite.name).Nodup) (old : Settings)
    (p : Param) : paramGet (ws.foldl applyWrite old) p = numberAfter old ws p := by
  have hread := read_foldl_applyWrite (fun c => paramGet c p) (numberWritten? p) (storedValue p) (.num p) ?_ ?_ ?_
    hnodup old
  · rw [hread, numberAfter]
    cases ws.findSome? (numberWritten? p) with
    | none => rfl
    | some v => exact storedValue_eq p v
  · intro w v hw
    cases w with
    | num q x =>
      simp only [numberWritten?] at hw
      split at hw
      case isTrue hq => rw [ParamWrite.name, hq]
      case isFalse => cases hw
    | pol x => cases hw
    | autoClass x => cases hw
  · intro w v c hw
    cases w with
    | num q x =>
      simp only [numberWritten?] at hw
      split at hw
      case isTrue hq =>
        cases hw
        simp [applyWrite, hq]
      case isFalse => cases hw
    | pol x => cases hw
    | autoClass x => cases hw
  · intro w c hw
    cases w with
    | num q x =>
      simp only [numberWritten?] at hw
      split at hw
      case isTrue => cases hw
      case isFalse hq => simp [applyWrite, hq]
    | pol x => rfl
    | autoClass x => rfl

theorem pol_foldl_applyWrite {ws : List ParamWrite} (hnodup : (ws.map ParamWrite.name).Nodup) (old : Settings) :
    (ws.foldl applyWrite old).pol = (ws.findSome? polWritten?).getD old.pol := by
  have hread := read_foldl_applyWrite Settings.pol polWritten? id .pol
    (fun w a hw => by cases w <;> cases hw; rfl) (fun w a c hw => by cases w <;> cases hw; rfl) ?_ hnodup old
  · rwa [Option.map_id] at hread
  · intro w c hw
    cases w with
    | pol x => cases hw
    | num q x => rfl
    | autoClass x => rfl

theorem autoClass_foldl_applyWrite {ws : List ParamWrite} (hnodup : (ws.map ParamWrite.name).Nodup)
    (old : Settings) : (ws.foldl applyWrite old).autoClass = (ws.findSome? autoClassWritten?).getD old.autoClass := by
  have hread := read_foldl_applyWrite Settings.autoClass autoClassWritten? id .autoClass
    (fun w a hw => by cases w <;> cases hw; rfl) (fun w a c hw => by cases w <;> cases hw; rfl) ?_ hnodup old
  · rwa [Option.map_id] at hread
  · intro w c hw
    cases w with
    | autoClass x => cases hw
    | num q x => rfl
    | pol x => rfl

/-- The settings after a request are those in which all its values stand together (R82, R84, R176). -/
theorem settingsAfter_eq {old c : Settings} {ws : List ParamWrite} (hnodup : (ws.map ParamWrite.name).Nodup)
    (h : AsWritten old ws c) : settingsAfter old ws = c := by
  obtain ⟨hnumbers, hpol, hclass⟩ := h
  refine settings_ext (fun p => ?_) ?_ ?_
  · rw [hnumbers p, settingsAfter, boundPairs, paramGet_paramSet, paramGet_paramSet,
      paramGet_foldl_applyWrite hnodup, paramGet_foldl_applyWrite hnodup, paramGet_foldl_applyWrite hnodup,
      paramGet_foldl_applyWrite hnodup, paramGet_foldl_applyWrite hnodup]
    by_cases hvmin : p = .vmin
    · subst hvmin
      rfl
    · by_cases hwresume : p = .wresume
      · subst hwresume
        rfl
      · simp [hvmin, hwresume, Ne.symm hvmin, Ne.symm hwresume]
  · exact (pol_foldl_applyWrite hnodup old).trans hpol.symm
  · exact (autoClass_foldl_applyWrite hnodup old).trans hclass.symm

theorem nodup_of_psFields {fields : List Text} {ws : List ParamWrite} (h : psFields? fields = some ws) :
    (ws.map ParamWrite.name).Nodup := by
  unfold psFields? at h
  split at h
  case h_1 =>
    split at h
    case isTrue hnodup => cases h; exact hnodup
    case isFalse => cases h
  case h_2 => cases h
  case h_3 => cases h

/-! ## The checks of a request -/

theorem writesAny_eq (ws : List ParamWrite) (test : Param → Bool) : writesAny ws test = namesAny ws test := by
  refine congrArg (List.any ws) (funext fun w => ?_)
  cases w <;> rfl

theorem writesNegativePosition_eq (ws : List ParamWrite) :
    writesNegativePosition ws = ws.any positionBelowZero := by
  refine congrArg (List.any ws) (funext fun w => ?_)
  cases w <;> rfl

theorem namesAny_or (ws : List ParamWrite) (one other : Param → Bool) :
    namesAny ws (fun p => one p || other p) = true ↔ namesAny ws one = true ∨ namesAny ws other = true := by
  simp only [namesAny, List.any_eq_true, ← exists_or, ← and_or_left]
  refine exists_congr fun w => and_congr_right fun _ => ?_
  cases w <;> simp

theorem isProtected_eq (w : ParamWrite) : w.isProtected = keyNeeded w := by cases w <;> rfl

theorem creditless_iff (c : Settings) (p : Param) : creditless c p = true ↔ credit c (paramGet c p) = 0 := by
  simp [creditless]

/-- The checks of a request that the store operation and the key let pass, in their order (R13, R76, R82, R83). -/
theorem psFailure_judged {s : State} {ws : List ParamWrite} {c : Settings} (hidle : s.sup.storeOp = .none)
    (hkey : isActive s .sk = true ∨ (∀ w ∈ ws, keyNeeded w = false)) (hc : settingsAfter s.settings ws = c) :
    psFailure s ws =
      if namesAny ws paramIsZone = true ∧ lineEmpty s = false then some 4
      else if namesAny ws paramIsZone = true ∧ (zoneTableValid c = false ∨ (ws.any positionBelowZero) = true) then some 2
      else if namesAny ws paramIsCredit = true ∧ lineEmpty s = false then some 4
      else if namesAny ws paramIsCredit = true ∧ creditTableValid c = false then some 2
      else if namesAny ws (fun p => paramIsCredit p || p == .tref) = true ∧ credit c (paramGet c .tref) = 0 then some 6
      else if namesAny ws (fun p => paramIsCredit p || p == .tresume) = true
          ∧ credit c (paramGet c .tresume) = 0 then some 6
      else none := by
  have hallowed : ¬ (ws.any ParamWrite.isProtected = true ∧ isActive s .sk = false) := by
    rintro ⟨hany, hinactive⟩
    rcases hkey with hactive | hfree
    · rw [hactive] at hinactive
      cases hinactive
    · obtain ⟨w, hw, hneeds⟩ := List.any_eq_true.mp hany
      rw [isProtected_eq, hfree w hw] at hneeds
      cases hneeds
  rw [psFailure, if_neg (not_not.mpr hidle), if_neg hallowed]
  simp only [hc, writesAny_eq, writesNegativePosition_eq, namesAny_or, creditless_iff]

theorem exec_ps_refused {s : State} {fields : List Text} {ws : List ParamWrite} {code : Nat} (hquiet : linkQuiet s)
    (hfields : psFields? fields = some ws) (hfails : psFailure s ws = some code) :
    exec (.ps fields) s = .next (answered s "PS".toList (.error code)) := by
  refine exec_answered hquiet ?_
  simp only [hfields, show psFailure (idleBuffer s) ws = some code from hfails]

theorem exec_ps_passes {s : State} {fields : List Text} {ws : List ParamWrite} {c : Settings} (hquiet : linkQuiet s)
    (hfields : psFields? fields = some ws) (hpasses : psFailure s ws = none) (hc : settingsAfter s.settings ws = c) :
    exec (.ps fields) s = .next
      (sendReply (settle (adoptSettings (idleBuffer s) c (namesAny ws (· == .epm)))) "PS".toList
        (.ok (spaced (ws.map fun w => pairText c w.name)))) := by
  refine congrArg Host.Outcome.next (takeRequest_effect hquiet ?_)
  simp only [hfields, show psFailure (idleBuffer s) ws = none from hpasses,
    show settingsAfter (idleBuffer s).settings ws = c from hc, writesEpm, writesAny_eq]

/-! ## Hold counts as an event is settled -/

/-- Both tray belts count as many held trays as before. -/
def HoldCountsKept (s t : State) : Prop := ∀ b, (trayChannel t b).holdCount = (trayChannel s b).holdCount

theorem HoldCountsKept.trans {s t u : State} (h : HoldCountsKept s t) (h' : HoldCountsKept t u) :
    HoldCountsKept s u := fun b => (h' b).trans (h b)

theorem holdCountsKept_of_tray {s t : State} (h : t.tray = s.tray) : HoldCountsKept s t := by
  intro b
  cases b <;> simp [trayChannel, h]

theorem trayAtModeChange_holdCount (old new : LineMode) (headFull : Bool) (c : TrayChannel) :
    (trayAtModeChange old new headFull c).holdCount = c.holdCount := by
  unfold trayAtModeChange
  split
  · rfl
  · split <;> rfl

theorem changeMode_holdCounts (s : State) (m : LineMode) : HoldCountsKept s (changeMode s m) := by
  intro b
  cases b <;> simp [trayChannel, changeMode_trays, trayAtModeChange_holdCount]

theorem reevaluate_holdCounts (s : State) : HoldCountsKept s (reevaluate s) := by
  have hdecides : ∀ o, HoldCountsKept s (decideAdmission s o) := by
    intro o
    rcases decideAdmission_cases s o with ⟨-, h⟩ | ⟨r, -, h⟩
    · have htray : (atAdmission (autoEnrol s o) o).tray = s.tray := by simp [atAdmission]
      rw [h, admitRack_eq, wake]
      split
      · exact (holdCountsKept_of_tray htray).trans (changeMode_holdCounts _ _)
      · exact holdCountsKept_of_tray htray
    · rw [h]
      refine holdCountsKept_of_tray ?_
      split <;> simp
  unfold reevaluate
  split
  · split
    · exact fun _ => rfl
    · exact hdecides _
  all_goals exact fun _ => rfl

theorem settle_holdCounts (s : State) : HoldCountsKept s (settle s) := by
  have hdrain : ∀ t, HoldCountsKept t (drainTest t) := by
    intro t
    unfold drainTest
    split
    · exact HoldCountsKept.trans (t := changeMode { t with sup := { t.sup with draining := false } } .parked)
        (changeMode_holdCounts _ _) (reevaluate_holdCounts _)
    · exact fun _ => rfl
  have hrunOn : ∀ t, HoldCountsKept t (runOnTest t) := by
    intro t
    unfold runOnTest
    split
    · exact HoldCountsKept.trans (t := changeMode { t with sup := { t.sup with runOn := 0 } } .parked)
        (changeMode_holdCounts _ _) (reevaluate_holdCounts _)
    · exact fun _ => rfl
  have hoccupied : HoldCountsKept (reevaluate s) (runOnWhileOccupied (reevaluate s)) :=
    holdCountsKept_of_tray (by simp)
  exact (((reevaluate_holdCounts s).trans hoccupied).trans (hdrain _)).trans (hrunOn _)

/-! ## New settings taken up -/

/-- The tray belts under new settings (R149, R154). -/
theorem adoptSettings_trays (s : State) (c : Settings) (epm : Bool) :
    (∀ b, (trayChannel (adoptSettings s c epm) b).holdCount
        = min (trayChannel s b).holdCount (paramGet c .holdlim))
      ∧ (adoptSettings s c epm).tray.congestionTimer = min s.tray.congestionTimer (paramGet c .congd * 10)
      ∧ ((adoptSettings s c epm).tray.congested = true
          ↔ (adoptSettings s c epm).tray.congestionTimer = paramGet c .congd * 10) := by
  let t := Input.all.foldl (requalify s.settings.pol c.pol) { s with settings := c }
  let u := if epm then clearAccumulators t else t
  have htray : u.tray = s.tray := by cases epm <;> simp [u, t, clearAccumulators, foldl_requalify_frame]
  have hsettings : u.settings = c := by cases epm <;> simp [u, t, clearAccumulators, foldl_requalify_frame]
  have hadopted : (adoptSettings s c epm).tray
      = (limitHoldCounts (setCongestion u (min u.tray.congestionTimer (congestionLimit u)))).tray := rfl
  have hlimit : congestionLimit u = paramGet c .congd * 10 := by rw [congestionLimit, par, hsettings]
  refine ⟨fun b => ?_, ?_, ?_⟩
  · cases b <;> simp [trayChannel, hadopted, limitHoldCounts, setCongestion, htray, par, hsettings]
  · rw [hadopted]
    simp [limitHoldCounts, setCongestion, htray, hlimit]
  · rw [hadopted]
    simp [limitHoldCounts, setCongestion, htray, hlimit]

theorem adoptSettings_accumulator (s : State) (c : Settings) (epm : Bool) :
    (adoptSettings s c epm).belt.forwardAcc = (if epm then 0 else s.belt.forwardAcc)
      ∧ (adoptSettings s c epm).belt.reverseAcc = (if epm then 0 else s.belt.reverseAcc) := by
  cases epm with
  | true => exact adoptSettings_accumulators s c
  | false =>
    unfold adoptSettings
    simp [setDemand, limitHoldCounts, setCongestion, foldl_requalify_frame]

/-- The mode once new settings are taken up, on an empty RUN line that neither drains nor is held (R161). -/
theorem settle_parks_iff {s : State} (hnobody : nobodyWaits s = true) (hmode : s.sup.mode = .run)
    (hempty : lineEmpty s = true) (hdraining : s.sup.draining = false) (hheld : s.sup.lineHeld = false) :
    (settle s).sup.mode = .parked ↔ par s .runon ≤ s.sup.runOn := by
  have hdrain : drainEnds s = false := by simp [drainEnds, hdraining]
  have hends : runOnEnds s = decide (par s .runon ≤ s.sup.runOn) := by
    simp [runOnEnds, hmode, hempty, hdraining, hheld]
  by_cases hcount : par s .runon ≤ s.sup.runOn
  · rw [settle_runOut hnobody (hends.trans (decide_eq_true hcount)), changeMode_sup]
    exact iff_of_true rfl hcount
  · rw [settle_stays hnobody hempty hdrain (hends.trans (decide_eq_false hcount)), hmode]
    exact iff_of_false (by decide) hcount

/-- What a request that passes leads to. -/
theorem taken_up (s : State) (c : Settings) (epm : Bool) (r : Reply) :
    let t := sendReply (settle (adoptSettings (idleBuffer s) c epm)) "PS".toList r
    t.settings = c ∧ t.link = (answered s "PS".toList r).link
      ∧ t.belt.forwardAcc = (if epm then 0 else s.belt.forwardAcc)
      ∧ t.belt.reverseAcc = (if epm then 0 else s.belt.reverseAcc)
      ∧ t.belt.odometer = s.belt.odometer ∧ t.belt.reverseCount = s.belt.reverseCount
      ∧ (∀ i : Input, channel t i = judged s.settings.pol c.pol i (channel s i))
      ∧ t.pacing.speedDemand = min (max s.pacing.speedDemand (paramGet c .vmin)) (paramGet c .vnom)
      ∧ (∀ b : TrayBelt, (trayChannel t b).holdCount = min (trayChannel s b).holdCount (paramGet c .holdlim))
      ∧ t.tray.congestionTimer = min s.tray.congestionTimer (paramGet c .congd * 10)
      ∧ (t.tray.congested = true ↔ t.tray.congestionTimer = paramGet c .congd * 10) := by
  intro t
  let u := adoptSettings (idleBuffer s) c epm
  obtain ⟨hforward, hreverse⟩ := adoptSettings_accumulator (idleBuffer s) c epm
  obtain ⟨hholds, htimer, hcongested⟩ := adoptSettings_trays (idleBuffer s) c epm
  refine ⟨?_, ?_, ?_, ?_, ?_, ?_, fun i => ?_, ?_, fun b => ?_, ?_, ?_⟩
  · simp [t, sendReply]
  · simp [t, sendReply]
    rfl
  · simp [t, sendReply]
    exact hforward
  · simp [t, sendReply]
    exact hreverse
  · simp [t, sendReply]
    rfl
  · simp [t, sendReply]
    rfl
  · have hinputs : t.inputs = u.inputs := by simp [t, u, sendReply]
    rw [channel, hinputs]
    exact channel_adoptSettings (idleBuffer s) c epm i
  · simp [t, sendReply, clampSpeed]
    rfl
  · exact (settle_holdCounts u b).trans (hholds b)
  · simp [t, sendReply]
    exact htimer
  · simpa [t, sendReply] using hcongested

/-- Settles O53: the checks are those of the model read with all the values of the request together. -/
theorem psStoresWholeRequestsOrNothing : Obligations.PsStoresWholeRequestsOrNothing := by
  intro s hquiet
  refine ⟨fun fields hfields => ?_, fun fields ws hfields hbusy => ?_, fun fields ws hfields hidle hkey hneeds => ?_,
    fun fields ws c hfields hidle hkey hwritten => ?_⟩
  · refine exec_answered hquiet ?_
    simp only [hfields]
  · exact exec_ps_refused hquiet hfields (if_pos hbusy)
  · obtain ⟨w, hw, hprotected⟩ := hneeds
    have hany : ws.any ParamWrite.isProtected = true :=
      List.any_eq_true.mpr ⟨w, hw, (isProtected_eq w).trans hprotected⟩
    exact exec_ps_refused hquiet hfields ((if_neg (not_not.mpr hidle)).trans (if_pos ⟨hany, hkey⟩))
  · have hc : settingsAfter s.settings ws = c := settingsAfter_eq (nodup_of_psFields hfields) hwritten
    have hjudged := psFailure_judged hidle hkey hc
    split
    case isTrue h => exact exec_ps_refused hquiet hfields (hjudged.trans (if_pos h))
    case isFalse hline =>
    rw [if_neg hline] at hjudged
    split
    case isTrue h => exact exec_ps_refused hquiet hfields (hjudged.trans (if_pos h))
    case isFalse hzone =>
    rw [if_neg hzone] at hjudged
    split
    case isTrue h => exact exec_ps_refused hquiet hfields (hjudged.trans (if_pos h))
    case isFalse htableLine =>
    rw [if_neg htableLine] at hjudged
    split
    case isTrue h => exact exec_ps_refused hquiet hfields (hjudged.trans (if_pos h))
    case isFalse htable =>
    rw [if_neg htable] at hjudged
    split
    case isTrue h => exact exec_ps_refused hquiet hfields (hjudged.trans (if_pos h))
    case isFalse htref =>
    rw [if_neg htref] at hjudged
    split
    case isTrue h => exact exec_ps_refused hquiet hfields (hjudged.trans (if_pos h))
    case isFalse htresume =>
    rw [if_neg htresume] at hjudged
    let u := adoptSettings (idleBuffer s) c (namesAny ws (· == .epm))
    obtain ⟨hsettings, hlink, hforward, hreverse, hodometer, hcount, hchannels, hspeed, hholds, htimer, hcongested⟩ :=
      taken_up s c (namesAny ws (· == .epm)) (.ok (spaced (ws.map fun w => pairText c w.name)))
    refine ⟨_, exec_ps_passes hquiet hfields hjudged hc, hsettings, hlink, hforward, hreverse, hodometer, hcount,
      fun i => (hchannels i).trans ?_, hspeed, hholds, htimer, hcongested, fun hnobody => ?_, ?_⟩
    · by_cases hpol : c.pol[i.index] = s.settings.pol[i.index]
      · rw [if_pos hpol, judged, if_pos hpol.symm]
      · rw [if_neg hpol, judged, if_neg (Ne.symm hpol)]
        rfl
    · have hstays : nobodyWaits u = true := nobodyWaits_of_stage hnobody (by simp [u]; rfl)
      obtain ⟨hstage, hregistry, hreturns, -⟩ := settle_quiet hstays
      refine ⟨?_, ?_, ?_, fun hmode hempty hdraining hheld => ?_⟩
      · refine hstage.trans ?_
        simp [u]
        rfl
      · refine hregistry.trans ?_
        simp [u]
        rfl
      · refine (congrArg Return.enRoute hreturns).trans ?_
        simp [u]
        rfl
      · have hparks := settle_parks_iff (s := u) hstays (by simp [u]; exact hmode)
          ((lineEmpty_of_same (s := s) (by simp [u]; rfl) (by simp [u]; rfl)).trans hempty)
          (by simp [u]; exact hdraining) (by simp [u]; exact hheld)
        refine hparks.trans ?_
        simp [u, par]
        rfl
    · apply state_ext
      case returns => apply returns_ext <;> simp [sendReply] <;> rfl
      all_goals simp [sendReply]
      all_goals rfl

end Sys2Proof.Proofs
end
